-- ==== Sys2Proof/Word.lean ====
section
/-! DEFINITION. The two word types of the block: the byte that crosses the bus (20_memory.md R58) and the
16-bit operation word of the host port (30_encoding.md R85). -/

namespace Sys2Proof

/-- One byte: an address byte, a control byte, a command byte or a data byte (R58). -/
abbrev Byte := BitVec 8

/-- One operation word of the host port (R85). -/
abbrev OpWord := BitVec 16

/-- A 7-bit bus address (R23, R90). -/
abbrev Addr7 := BitVec 7

end Sys2Proof
end

