-- ==== Sys2Proof/Config.lean ====
section
/-! DEFINITION. The implementation parameters of 00_scope.md section 4 (R8 to R15), and the free value of an acknowledge
draw. A parameter the spec calls OPEN is an opaque constant: no proof can see its value. -/

namespace Sys2Proof

/-- The transport's answer to one bus event (R14, R110). -/
inductive Ack where
  | ok
  | err
  deriving DecidableEq, Repr, Inhabited

/-- `TXN_CAP` (R11): how many bytes one transaction carries after the address byte. -/
inductive TxnCap where
  | unbounded
  | bounded (bytes : Nat)
  deriving DecidableEq, Repr

/-- Whether a transaction may hold `n` bytes (the test `TXN_CAP != UNBOUNDED and n > TXN_CAP` of R114, negated). -/
def TxnCap.admits : TxnCap → Nat → Bool
  | .unbounded, _ => true
  | .bounded cap, n => decide (n ≤ cap)

/-- `CMDENC` (R12, R95): the controller command bytes. A command with an operand is its base byte OR the operand, as the
table of R95 writes it (log entry 4). -/
structure CmdEnc where
  setPage    : Byte
  setColLo   : Byte
  setColHi   : Byte
  contrast   : Byte
  invertOff  : Byte
  invertOn   : Byte
  displayOff : Byte
  displayOn  : Byte
  addrMode   : Byte
  deriving DecidableEq, Repr

/-- The default `CMDENC` of R95. Mark: PRESUMED, unsafe (log entry 4): the spec marks these bytes as general knowledge. -/
def CmdEnc.default : CmdEnc :=
  { setPage := 0xB0, setColLo := 0x00, setColHi := 0x10, contrast := 0x81, invertOff := 0xA6, invertOn := 0xA7,
    displayOff := 0xAE, displayOn := 0xAF, addrMode := 0x20 }

/-- `PIXEL_BIT_ORDER` (R15, R52): the bit of a data byte that drives pixel k of its column, k = 0 the top one.
Mark: DESIGN CHOICE, safe (log entry 18). -/
structure PixelBitOrder where
  pixel0 : Fin 8
  pixel1 : Fin 8
  pixel2 : Fin 8
  pixel3 : Fin 8
  pixel4 : Fin 8
  pixel5 : Fin 8
  pixel6 : Fin 8
  pixel7 : Fin 8
  deriving DecidableEq, Repr, Inhabited

/-- The parameters of one machine (R10 to R13, R15). They never change while it runs. -/
structure Config where
  addrSet       : List Addr7
  txnCap        : TxnCap
  cmdEnc        : CmdEnc
  initSeq       : List (List Byte)
  pixelBitOrder : PixelBitOrder
  deriving DecidableEq, Repr

/-- `N_PAGES` (R8). -/
def nPages : Nat := 8

/-- `N_COLS` (R8). -/
def nCols : Nat := 128

/-- How many cells the display memory has (R52). -/
def nCells : Nat := nPages * nCols

/-- `CTRL_CMD` (R9). -/
def ctrlCmd : Byte := 0x00

/-- `CTRL_DATA` (R9). -/
def ctrlData : Byte := 0x40

/-- OPEN (R11): none is UNBOUNDED; `some k` is a capacity of k + 4, so exactly the values of at least 4 are meant. -/
opaque Config.openTxnCap : Option Nat

/-- OPEN (R13): the command groups of `INIT_SEQ`, before the check of 00_scope.md section 4. -/
opaque Config.openInitSeq : List (List Byte)

/-- OPEN (R15): `PIXEL_BIT_ORDER`. -/
opaque Config.openPixelBitOrder : PixelBitOrder

/-- FREE VALUE (R14, R110; log entry 3): the transport's answer to acknowledge draw number n of the run. -/
opaque Config.freeAck : Nat → Ack

/-- `TXN_CAP` from its open value. -/
def TxnCap.ofOpen : Option Nat → TxnCap
  | none => .unbounded
  | some k => .bounded (k + 4)

/-- The check of 00_scope.md section 4 on one command group: `1 <= len(g)` and `2*len(g) <= TXN_CAP`. -/
def TxnCap.groupOk (cap : TxnCap) (g : List Byte) : Bool :=
  decide (1 ≤ g.length) && cap.admits (2 * g.length)

/-- The configuration `State.reset` starts from: the spec's defaults where it gives them (R10, R95), the OPEN values
otherwise. `ADDR_SET` is R10's default (log entry 5). The groups that 00_scope.md section 4 refuses are not in it, so it ranges over exactly the configurations
that pass that check (log entry 2). -/
def Config.chosen : Config :=
  { addrSet := [0x3C, 0x3D]
    txnCap := TxnCap.ofOpen Config.openTxnCap
    cmdEnc := CmdEnc.default
    initSeq := Config.openInitSeq.filter (TxnCap.ofOpen Config.openTxnCap).groupOk
    pixelBitOrder := Config.openPixelBitOrder }

end Sys2Proof
end

