-- ==== Sys2Proof/Syntax.lean ====
section
/-! DEFINITION. The 13 operations of 30_encoding.md R91 (spec/opcode_table.json), one constructor a row. An operand has
the width of its field, so every term is an operation that some word encodes. -/

namespace Sys2Proof

/-- A host operation with its operand fields. -/
inductive Instr where
  /-- CONFIG a: fix the bus address (R170). -/
  | config (addr7 : Addr7)
  /-- INITIALIZE: send INIT_SEQ (R171). -/
  | initialise
  /-- BEGIN_CMD: open a command frame (R113). -/
  | beginCmd
  /-- CMD_BYTE c: one command byte in an open command frame (R114). -/
  | cmdByte (imm8 : Byte)
  /-- END_CMD: close the command frame (R115). -/
  | endCmd
  /-- BEGIN_DATA: open a data frame at the shadow cursor (R116). -/
  | beginData
  /-- DATA_BYTE v: one pixel-data byte (R117). -/
  | dataByte (imm8 : Byte)
  /-- END_DATA: close the data frame (R118). -/
  | endData
  /-- SEND_COMMAND c: one command byte in a frame of its own (R119). -/
  | sendCommand (imm8 : Byte)
  /-- SET_POSITION r, c: program the write cursor (R150). -/
  | setPosition (row : BitVec 4) (col : BitVec 8)
  /-- SET_CONTRAST l (R173). -/
  | setContrast (imm8 : Byte)
  /-- INVERT_SCREEN f; true is 1, inverted (R174). -/
  | invertScreen (flag : Bool)
  /-- SLEEP f; true is 1, sleep (R175). -/
  | sleep (flag : Bool)
  deriving DecidableEq, Repr

end Sys2Proof
end

