-- ==== Sys2Proof/WellFormed.lean ====
section
/-! DEFINITION. What is checked before a run. An operation needs no check, since each operand has its field's width. Two
things do: the parameters (00_scope.md section 4, 42_register_programming.md R172) and an assembly statement, whose
operands are plain numbers that may not fit (30_encoding.md R97, R98). -/

namespace Sys2Proof

/-- `TXN_CAP >= 4`, or UNBOUNDED (R11 and 00_scope.md section 4). -/
def TxnCap.wf : TxnCap → Bool
  | .unbounded => true
  | .bounded cap => decide (4 ≤ cap)

/-- The parameter check of 00_scope.md section 4. `ADDR_SET` is a subset of [0, 127] by its type. -/
def Config.wf (c : Config) : Bool :=
  c.txnCap.wf && c.initSeq.all c.txnCap.groupOk

/-- `INIT_SEQ` leaves the controller in page addressing mode: it holds the group ADDR_MODE, 0x02 (R95, R172). The spec
asks this of a configuration whose SET_POSITION is to position the cursor; it is no part of the check. -/
def Config.selectsPageMode (c : Config) : Bool :=
  c.initSeq.contains [c.cmdEnc.addrMode, 0x02]

/-- An assembly statement of R97, or a pseudo-instruction of R98, with its operands as numbers. -/
inductive Stmt where
  | config (a : Nat)
  | initialise
  | beginCmd
  | cmdByte (c : Nat)
  | endCmd
  | beginData
  | dataByte (d : Nat)
  | endData
  | sendCommand (c : Nat)
  | setPosition (r c : Nat)
  | setContrast (l : Nat)
  | invertScreen (f : Nat)
  | sleep (f : Nat)
  /-- DATA d1, ..., dn. -/
  | data (ds : List Nat)
  /-- CMDS c1, ..., cn. -/
  | cmds (cs : List Nat)
  /-- WRITE_AT r, c, d1, ..., dn. -/
  | writeAt (r c : Nat) (ds : List Nat)
  deriving DecidableEq, Repr

/-- A number fits a field of `w` bits. -/
def fits (w n : Nat) : Bool := decide (n < 2 ^ w)

/-- "An assembler refuses an operand that does not fit its field" (R97). The lists of R98 begin with a first element. -/
def Stmt.wf : Stmt → Bool
  | .config a => fits 7 a
  | .initialise => true
  | .beginCmd => true
  | .cmdByte c => fits 8 c
  | .endCmd => true
  | .beginData => true
  | .dataByte d => fits 8 d
  | .endData => true
  | .sendCommand c => fits 8 c
  | .setPosition r c => fits 4 r && fits 8 c
  | .setContrast l => fits 8 l
  | .invertScreen f => fits 1 f
  | .sleep f => fits 1 f
  | .data ds => !ds.isEmpty && ds.all (fits 8)
  | .cmds cs => !cs.isEmpty && cs.all (fits 8)
  | .writeAt r c ds => fits 4 r && fits 8 c && !ds.isEmpty && ds.all (fits 8)

end Sys2Proof
end

