-- ==== Sys2Proof/Decode.lean ====
section
/-! DEFINITION. Decoding an operation word (30_encoding.md R85 to R94), the encoder, the opcode table of R91 as rows of
mask and match, and the assembler (R97, R98). -/

namespace Sys2Proof

/-- Why a word is illegal (R94). -/
inductive DecodeError where
  /-- `op` is 0x0, 0xE or 0xF (R92). -/
  | reservedOpcode
  /-- A must-be-zero field is not zero (R93). -/
  | mustBeZero
  deriving DecidableEq, Repr

/-- `op[15:12]` (R85). -/
def opcode (w : OpWord) : BitVec 4 := w.extractLsb' 12 4

/-- `imm8[7:0]` of format B (R87), and `col[7:0]` of format P (R89). -/
def imm8 (w : OpWord) : Byte := w.extractLsb' 0 8

/-- `row[11:8]` of format P (R89). -/
def rowField (w : OpWord) : BitVec 4 := w.extractLsb' 8 4

/-- `addr7[6:0]` of format A (R90). -/
def addr7Field (w : OpWord) : Addr7 := w.extractLsb' 0 7

/-- `f[0]` of format F, 1 means true (R88). -/
def flagField (w : OpWord) : Bool := decide (w.extractLsb' 0 1 = 1#1)

/-- Format N: `zero[11:0]` must be 0 (R86, R93). -/
def zeroN (w : OpWord) : Bool := decide (w.extractLsb' 0 12 = 0#12)

/-- Format B: `zero[11:8]` must be 0 (R87, R93). -/
def zeroB (w : OpWord) : Bool := decide (w.extractLsb' 8 4 = 0#4)

/-- Format F: `zero[11:1]` must be 0 (R88, R93). -/
def zeroF (w : OpWord) : Bool := decide (w.extractLsb' 1 11 = 0#11)

/-- Format A: `zero[11:7]` must be 0 (R90, R93). -/
def zeroA (w : OpWord) : Bool := decide (w.extractLsb' 7 5 = 0#5)

/-- The operation, provided its must-be-zero field is zero (R93). -/
def needZero (zero : Bool) (i : Instr) : Except DecodeError Instr :=
  if zero then .ok i else .error .mustBeZero

/-- Decoding, total on the 16-bit words; it reads no state (R91 to R94). -/
def decode (w : OpWord) : Except DecodeError Instr :=
  match (opcode w).toNat with
  | 1 => needZero (zeroA w) (.config (addr7Field w))
  | 2 => needZero (zeroN w) .initialise
  | 3 => needZero (zeroN w) .beginCmd
  | 4 => needZero (zeroB w) (.cmdByte (imm8 w))
  | 5 => needZero (zeroN w) .endCmd
  | 6 => needZero (zeroN w) .beginData
  | 7 => needZero (zeroB w) (.dataByte (imm8 w))
  | 8 => needZero (zeroN w) .endData
  | 9 => needZero (zeroB w) (.sendCommand (imm8 w))
  | 10 => .ok (.setPosition (rowField w) (imm8 w))
  | 11 => needZero (zeroB w) (.setContrast (imm8 w))
  | 12 => needZero (zeroF w) (.invertScreen (flagField w))
  | 13 => needZero (zeroF w) (.sleep (flagField w))
  | _ => .error .reservedOpcode

/-- Format N (R86). -/
def encodeN (op : BitVec 4) : OpWord := op ++ 0#12

/-- Format B (R87). -/
def encodeB (op : BitVec 4) (b : Byte) : OpWord := op ++ (0#4 ++ b : BitVec 12)

/-- Format F (R88). -/
def encodeF (op : BitVec 4) (f : Bool) : OpWord := op ++ (0#11 ++ BitVec.ofBool f : BitVec 12)

/-- Format P (R89). -/
def encodeP (op row : BitVec 4) (col : BitVec 8) : OpWord := op ++ (row ++ col : BitVec 12)

/-- Format A (R90). -/
def encodeA (op : BitVec 4) (a : Addr7) : OpWord := op ++ (0#5 ++ a : BitVec 12)

/-- The word of an operation (R91). -/
def encode : Instr → OpWord
  | .config a => encodeA 0x1 a
  | .initialise => encodeN 0x2
  | .beginCmd => encodeN 0x3
  | .cmdByte c => encodeB 0x4 c
  | .endCmd => encodeN 0x5
  | .beginData => encodeN 0x6
  | .dataByte v => encodeB 0x7 v
  | .endData => encodeN 0x8
  | .sendCommand c => encodeB 0x9 c
  | .setPosition r c => encodeP 0xA r c
  | .setContrast l => encodeB 0xB l
  | .invertScreen f => encodeF 0xC f
  | .sleep f => encodeF 0xD f

/-- A row of the opcode table (R91). -/
structure Row where
  mnemonic : String
  pattern  : OpWord
  mask     : OpWord
  deriving DecidableEq, Repr

/-- "A word w selects mnemonic m exactly when w & mask(m) = match(m)" (R91). -/
def Row.selects (r : Row) (w : OpWord) : Bool := decide (w &&& r.mask = r.pattern)

/-- The opcode table of R91, in its order. -/
def opcodeTable : List Row :=
  [ ⟨"CONFIG", 0x1000, 0xFF80⟩,
    ⟨"INITIALIZE", 0x2000, 0xFFFF⟩,
    ⟨"BEGIN_CMD", 0x3000, 0xFFFF⟩,
    ⟨"CMD_BYTE", 0x4000, 0xFF00⟩,
    ⟨"END_CMD", 0x5000, 0xFFFF⟩,
    ⟨"BEGIN_DATA", 0x6000, 0xFFFF⟩,
    ⟨"DATA_BYTE", 0x7000, 0xFF00⟩,
    ⟨"END_DATA", 0x8000, 0xFFFF⟩,
    ⟨"SEND_COMMAND", 0x9000, 0xFF00⟩,
    ⟨"SET_POSITION", 0xA000, 0xF000⟩,
    ⟨"SET_CONTRAST", 0xB000, 0xFF00⟩,
    ⟨"INVERT_SCREEN", 0xC000, 0xFFFE⟩,
    ⟨"SLEEP", 0xD000, 0xFFFE⟩ ]

/-- The mnemonic of an operation, as R91 spells it. -/
def mnemonic : Instr → String
  | .config _ => "CONFIG"
  | .initialise => "INITIALIZE"
  | .beginCmd => "BEGIN_CMD"
  | .cmdByte _ => "CMD_BYTE"
  | .endCmd => "END_CMD"
  | .beginData => "BEGIN_DATA"
  | .dataByte _ => "DATA_BYTE"
  | .endData => "END_DATA"
  | .sendCommand _ => "SEND_COMMAND"
  | .setPosition _ _ => "SET_POSITION"
  | .setContrast _ => "SET_CONTRAST"
  | .invertScreen _ => "INVERT_SCREEN"
  | .sleep _ => "SLEEP"

/-- The operations a statement stands for: itself, or its expansion (R98). -/
def Stmt.instrs : Stmt → List Instr
  | .config a => [.config (BitVec.ofNat 7 a)]
  | .initialise => [.initialise]
  | .beginCmd => [.beginCmd]
  | .cmdByte c => [.cmdByte (BitVec.ofNat 8 c)]
  | .endCmd => [.endCmd]
  | .beginData => [.beginData]
  | .dataByte d => [.dataByte (BitVec.ofNat 8 d)]
  | .endData => [.endData]
  | .sendCommand c => [.sendCommand (BitVec.ofNat 8 c)]
  | .setPosition r c => [.setPosition (BitVec.ofNat 4 r) (BitVec.ofNat 8 c)]
  | .setContrast l => [.setContrast (BitVec.ofNat 8 l)]
  | .invertScreen f => [.invertScreen (f == 1)]
  | .sleep f => [.sleep (f == 1)]
  | .data ds => ds.map fun d => .dataByte (BitVec.ofNat 8 d)
  | .cmds cs => .beginCmd :: (cs.map fun c => .cmdByte (BitVec.ofNat 8 c)) ++ [.endCmd]
  | .writeAt r c ds =>
    .setPosition (BitVec.ofNat 4 r) (BitVec.ofNat 8 c) :: .beginData ::
      (ds.map fun d => .dataByte (BitVec.ofNat 8 d)) ++ [.endData]

/-- The words of a statement; none where an operand does not fit its field (R97). -/
def assemble (st : Stmt) : Option (List OpWord) :=
  if st.wf then some (st.instrs.map encode) else none

/-- The word whose bits are `w`, of which the table gives the lowest `nbits`; the bits above are 0. -/
def tableWord (nbits w : Nat) : OpWord := BitVec.ofNat 16 (w % 2 ^ nbits)

/-- The operation the decoder reads from an instruction whose bits, numbered as spec/opcode_table.json numbers them, are
`w`. An operation word is one unit of the host port and has no byte order (R58, R59; log entry 16), so the table's bit k is bit k of
the word. An instruction is never longer than 16 bits (R85). -/
def decodeTableWord (nbits w : Nat) : Option Instr :=
  if nbits ≤ 16 then
    match decode (tableWord nbits w) with
    | .ok i => some i
    | .error _ => none
  else none

end Sys2Proof
end

