-- ==== Sys2Proof/Machine/State.lean ====
section
/-! DEFINITION. The state of the machine (10_state.md, 20_memory.md sections 2 and 3), its reset value (R33, R230), and
the reasons a step can stop. The registers are their named fields; the bits and codes the spec never lets them hold have no
value here (DESIGN CHOICE, safe, log entry 6). -/

namespace Sys2Proof.Machine

/-- `CFG` (R23). -/
structure Cfg where
  addr       : Addr7
  configured : Bool
  deriving DecidableEq, Repr

/-- `FRAME.state` (R25). The value 3 is never held, so it has no constructor. -/
inductive FrameState where
  | idle
  | cmd
  | data
  deriving DecidableEq, Repr

/-- `TXN` (R26): `count` bytes sent in the open transaction, `col0` the column it began at. -/
structure Txn where
  count : Nat
  col0  : BitVec 8
  deriving DecidableEq, Repr

/-- `CUR`, the shadow write cursor (R27). Its bits 14:11 are always 0 and have no field. -/
structure Cur where
  valid : Bool
  page  : BitVec 3
  col   : BitVec 8
  deriving DecidableEq, Repr

/-- The error codes, 2 to 9 of R200. -/
inductive ErrorCode where
  | illegal
  | config
  | notInit
  | frame
  | range
  | cursor
  | full
  | transport
  deriving DecidableEq, Repr

/-- `STATUS.code` (R28, R200). The codes 10 to 15 are never produced, so they have no constructor. -/
inductive Status where
  | ok
  | clipped
  | error (e : ErrorCode)
  deriving DecidableEq, Repr

/-- An event of the bus log (R51). -/
inductive BusEvent where
  /-- `Begin(a8)`, the source's sendBegin(). -/
  | beginEv (a8 : Byte)
  /-- `Byte(b)`, the source's sendByte(b). -/
  | byteEv (b : Byte)
  /-- `End`, the source's sendEnd(). -/
  | endEv
  deriving DecidableEq, Repr

/-- The two resets of 70_reset_and_hazards.md section 1. -/
inductive ResetKind where
  /-- R230. -/
  | powerOn
  /-- R231. -/
  | block
  deriving DecidableEq, Repr

/-- `DISP` (R52): the Known cells with their bytes, addresses strictly rising. A cell that is not listed is Unknown
(log entry 17). -/
abbrev Memory := List Host.Cell

structure State where
  /-- CFG (R23). -/
  cfg      : Cfg
  /-- INIT.done (R24). -/
  initDone : Bool
  /-- FRAME.state (R25). -/
  frame    : FrameState
  /-- TXN (R26). -/
  txn      : Txn
  /-- CUR (R27). -/
  cur      : Cur
  /-- STATUS.code (R28). -/
  status   : Status
  /-- ERRLOG (R29). -/
  errlog   : BitVec 16
  /-- LOG, in issue order (R51). -/
  log      : List BusEvent
  /-- DISP (R52). -/
  disp     : Memory
  /-- The host index into `program` (R21). -/
  pc       : Nat
  /-- The host program P (R21). -/
  program  : List OpWord
  /-- The parameters of 00_scope.md section 4: fixed, no step changes them (log entry 1). -/
  config   : Config
  /-- The model's own (log entry 3): the transport's answers to the first draws of the run; no step changes it. -/
  acks     : List Ack
  /-- The model's own (log entry 3): how many acknowledge draws have been taken. -/
  draws    : Nat
  /-- The model's own (log entry 9): the reset the host asks for before its next word. -/
  resetReq : Option ResetKind
  deriving DecidableEq, Repr

/-- The reasons a step, or an observation of the display memory, stops. -/
inductive Fault where
  /-- Raised by `step` when the host program has no word at `pc`: the run has ended (R240). Safe: nothing is left to do. -/
  | runEnded
  /-- Raised by `memRead` for an Unknown cell (R55). Safe: a claim about that cell cannot be proved. -/
  | unknownCell
  /-- Raised by `memRead` and by DATA_BYTE's `memWrite` for an address above 1023, and by `readPixel` for a column above 127: a
  cell that does not exist (R52, R62; log entries 10 and 21). Safe: no reachable state makes DATA_BYTE form one. -/
  | noSuchCell
  deriving DecidableEq, Repr

/-- The reasons the model has no meaning to give. -/
inductive Refusal where
  /-- An instruction of the opcode table without a meaning yet. No arm of `exec` answers it now. Safe. -/
  | notModelled (mnemonic : String)
  /-- Raised by `powerOn` for parameters that fail the check of 00_scope.md section 4 (R172,
  log entry 14). Safe: the spec refuses them. -/
  | malformedConfig
  deriving DecidableEq, Repr

/-- The registers' reset values and the empty observation state (R33, R56, R230), for the parameters `c`. The host has
loaded no program (log entry 7), settled no acknowledge (entry 3) and asks for no reset (entry 9). -/
def State.initial (c : Config) : State :=
  { cfg := { addr := 0, configured := false }
    initDone := false
    frame := .idle
    txn := { count := 0, col0 := 0 }
    cur := { valid := false, page := 0, col := 0 }
    status := .ok
    errlog := 0
    log := []
    disp := []
    pc := 0
    program := []
    config := c
    acks := []
    draws := 0
    resetReq := none }

/-- The machine right after power-on reset (R33, R230). -/
def State.reset : State := State.initial Config.chosen

end Sys2Proof.Machine
end

