-- ==== Sys2Proof/Machine/Flags.lean ====
section
/-! DEFINITION. Status codes and the sticky error record (R28, R29, R200), and the registers as the words of 10_state.md
section 2. No operation reads a register as a word (R22): the words are for claims. -/

namespace Sys2Proof.Machine

/-- The code of an error (R200). -/
def errorCode : ErrorCode → BitVec 4
  | .illegal => 2
  | .config => 3
  | .notInit => 4
  | .frame => 5
  | .range => 6
  | .cursor => 7
  | .full => 8
  | .transport => 9

/-- `STATUS.code` as bits 3:0 (R28, R200). -/
def statusCode : Status → BitVec 4
  | .ok => 0
  | .clipped => 1
  | .error e => errorCode e

/-- Bit k of ERRLOG, k the error's code (R29). -/
def errorBit (e : ErrorCode) : BitVec 16 := 1#16 <<< (errorCode e).toNat

/-- `ERRLOG[E] <- 1` (R201). -/
def recordError (errlog : BitVec 16) (e : ErrorCode) : BitVec 16 := errlog ||| errorBit e

/-- `FRAME.state` as bits 1:0 (R25). -/
def frameCode : FrameState → BitVec 2
  | .idle => 0
  | .cmd => 1
  | .data => 2

/-- `CFG` as 8 bits: configured in bit 7, addr in bits 6:0 (R23). -/
def cfgWord (c : Cfg) : BitVec 8 := BitVec.ofBool c.configured ++ c.addr

/-- `CUR` as 16 bits: valid in bit 15, bits 14:11 zero, page in bits 10:8, col in bits 7:0 (R27). -/
def curWord (c : Cur) : BitVec 16 := BitVec.ofBool c.valid ++ (0#4 ++ (c.page ++ c.col : BitVec 11) : BitVec 15)

/-- `INIT` as its one bit (R24). -/
def initWord (s : State) : BitVec 1 := BitVec.ofBool s.initDone

end Sys2Proof.Machine
end

