-- ==== Sys2Proof/Machine/Operands.lean ====
section
/-! DEFINITION. What the operations make of their operands: the address byte (R81), the range check (R150), the column
split (R96) and the command groups of the composite operations (R95, R150, R173 to R175). Every operand is an unsigned
immediate (R87 to R90). -/

namespace Sys2Proof.Machine

/-- `ADDR8 = (CFG.addr << 1) | 0` (R81, R111). -/
def addrByte (a : Addr7) : Byte := (a.setWidth 8 <<< 1) ||| 0#8

/-- The position is on the grid: not (`r > 7` or `c > 127`) (R150). -/
def inRange (row : BitVec 4) (col : BitVec 8) : Bool := decide (row.toNat < nPages) && decide (col.toNat < nCols)

/-- `c & 0x0F` (R96). -/
def colLo (col : BitVec 8) : Byte := col &&& 0x0F#8

/-- `c >> 4` (R96). -/
def colHi (col : BitVec 8) : Byte := col >>> 4

/-- The three command groups of SET_POSITION, in order (R95, R150, D34; log entry 15). -/
def positionGroups (enc : CmdEnc) (row : BitVec 4) (col : BitVec 8) : List (List Byte) :=
  [[enc.setPage ||| row.setWidth 8], [enc.setColLo ||| colLo col], [enc.setColHi ||| colHi col]]

/-- The command group of SET_CONTRAST (R173). -/
def contrastGroup (enc : CmdEnc) (level : Byte) : List Byte := [enc.contrast, level]

/-- The command group of INVERT_SCREEN (R174). -/
def invertGroup (enc : CmdEnc) (f : Bool) : List Byte := [if f then enc.invertOn else enc.invertOff]

/-- The command group of SLEEP: true is display off (R175, D33; log entry 15). -/
def sleepGroup (enc : CmdEnc) (f : Bool) : List Byte := [if f then enc.displayOff else enc.displayOn]

/-- The page a legal row names, unchanged (R96). -/
def rowPage (row : BitVec 4) : BitVec 3 := row.setWidth 3

end Sys2Proof.Machine
end

