-- ==== Sys2Proof/Machine/Ops.lean ====
section
/-! DEFINITION. The named operations over registers, display memory and bus: `raise` and `finish` (R201), the transport
primitives (R110), `TransportFail` (R112), `SendGroup` (R121), the two resets (R230, R231) and the host port (R21). -/

namespace Sys2Proof.Machine

/-! ## Display memory (R52 to R56) -/

/-- The canonical form: addresses strictly rising, every one below 1024 (R52). -/
abbrev Memory.wf (m : Memory) : Prop :=
  (m.map Prod.fst).Pairwise (· < ·) ∧ ∀ a ∈ m.map Prod.fst, a < nCells

/-- The byte of a Known cell; none where the cell is Unknown. -/
def Memory.read : Memory → Nat → Option Byte
  | [], _ => none
  | (a, v) :: m, k => if a = k then some v else Memory.read m k

/-- `DISP[k] <- Known(v)` (R53). -/
def Memory.write : Memory → Nat → Byte → Memory
  | [], k, v => [(k, v)]
  | (a, b) :: m, k, v =>
    if k < a then (k, v) :: (a, b) :: m
    else if k = a then (k, v) :: m
    else (a, b) :: Memory.write m k v

/-- `MemInvalidate(k)`: `DISP[k] <- Unknown` (R54). -/
def Memory.forget (m : Memory) (k : Nat) : Memory := m.filter fun c => decide (c.1 ≠ k)

/-- `MemInvalidate` of `n` cells from `base` on (the loop of R112). -/
def Memory.forgetFrom : Memory → Nat → Nat → Memory
  | m, _, 0 => m
  | m, base, n + 1 => Memory.forgetFrom (Memory.forget m base) (base + 1) n

/-- The address of the cell at a page and column: `page * 128 + col` (R52). -/
def cellAddr (page : BitVec 3) (col : BitVec 8) : Nat := page.toNat * nCols + col.toNat

/-- `MemWrite(a, 1, v)` (R53). That the byte lands at CUR rests on the controller (R152; UNVERIFIED, unsafe, log entry 12).
A cell above 1023 does not exist (R62, log entry 10). -/
def memWrite (a : Nat) (v : Byte) (s : State) : Except Fault State :=
  if a < nCells then .ok { s with disp := s.disp.write a v } else .error .noSuchCell

/-- `MemRead(a, 1)`, an observation; no operation of the block performs it (R55). -/
def memRead (a : Nat) (s : State) : Except Fault Byte :=
  if a < nCells then
    match s.disp.read a with
    | some v => .ok v
    | none => .error .unknownCell
  else .error .noSuchCell

/-! ## Ending an operation (R201) -/

/-- `raise E`: writes STATUS and bit E of ERRLOG, and nothing else (R201). An error does not trap (R204). -/
def raise (e : ErrorCode) (s : State) : State :=
  { s with status := .error e, errlog := recordError s.errlog e }

/-- `finish S` (R201). -/
def finish (st : Status) (s : State) : State := { s with status := st }

/-- An operation that a check rejects (R201). -/
def reject (e : ErrorCode) (s : State) : Host.Outcome State Fault Refusal := .next (raise e s)

/-! ## Register writes -/

/-- `CUR.valid <- 0`. -/
def clearCursor (s : State) : State := { s with cur.valid := false }

/-- `CUR <- (1, page, col)` (R150). -/
def setCursor (page : BitVec 3) (col : BitVec 8) (s : State) : State :=
  { s with cur := { valid := true, page := page, col := col } }

/-- `CUR.col <- CUR.col + 1; TXN.count <- TXN.count + 1` (R117). -/
def advanceCursor (s : State) : State :=
  { s with cur.col := s.cur.col + 1, txn.count := s.txn.count + 1 }

/-- `FRAME.state <- f; TXN.count <- n`, the start of a transaction (R113, R116, R121). -/
def openFrame (f : FrameState) (n : Nat) (s : State) : State := { s with frame := f, txn.count := n }

/-- `TXN.col0 <- CUR.col` (R116). -/
def markColumn (s : State) : State := { s with txn.col0 := s.cur.col }

/-- `FRAME.state <- IDLE; TXN.count <- 0`. -/
def closeFrame (s : State) : State := { s with frame := .idle, txn.count := 0 }

/-- `TXN.count <- TXN.count + n`. -/
def addCount (n : Nat) (s : State) : State := { s with txn.count := s.txn.count + n }

/-! ## Transport (R110 to R112) -/

/-- The answer of acknowledge draw number n: settled by `acks`, else free (R110, log entry 3). -/
def State.answer (s : State) (n : Nat) : Ack := (s.acks[n]?).getD (Config.freeAck n)

/-- The event enters LOG whatever the answer is, and one draw is taken (R110). Every draw is answered: a transport that
never answers is not modelled (R209; UNVERIFIED, unsafe, log entry 13). -/
def emit (e : BusEvent) (s : State) : State := { s with log := s.log ++ [e], draws := s.draws + 1 }

/-- The event that releases the bus after event `e` failed: End, unless `e` was the End (R112). -/
def releaseBus (e : BusEvent) (s : State) : State :=
  match e with
  | .endEv => s
  | _ => emit .endEv s

/-- The cells of an open data transaction become Unknown: columns `TXN.col0 .. CUR.col - 1` (R112). -/
def forgetTransaction (s : State) : State :=
  match s.frame with
  | .data => { s with disp := s.disp.forgetFrom (cellAddr s.cur.page s.txn.col0) (s.cur.col.toNat - s.txn.col0.toNat) }
  | _ => s

/-- `TransportFail`, after event `e` was answered `err` (R112). The draw of the releasing End is taken and ignored. -/
def transportFail (e : BusEvent) (s : State) : State :=
  raise .transport (clearCursor (closeFrame (forgetTransaction (releaseBus e s))))

/-- How far an operation has come after some events. -/
inductive Attempt where
  /-- Every event was acknowledged: the operation goes on from this state. -/
  | going (s : State)
  /-- TransportFail has ended the operation in this state. -/
  | ended (s : State)
  deriving DecidableEq, Repr

/-- Go on with `k` unless the operation has ended. -/
def Attempt.bind : Attempt → (State → Attempt) → Attempt
  | .going s, k => k s
  | .ended s, _ => .ended s

/-- Write registers with `k` unless the operation has ended. -/
def Attempt.map : Attempt → (State → State) → Attempt
  | .going s, k => .going (k s)
  | .ended s, _ => .ended s

/-- `finish S` unless the operation has ended. -/
def Attempt.complete (st : Status) : Attempt → Host.Outcome State Fault Refusal
  | .going s => .next (finish st s)
  | .ended s => .next s

/-- One event, and `TransportFail` if its acknowledge is `err` (R110, R112). -/
def tryEvent (e : BusEvent) (s : State) : Attempt :=
  match s.answer s.draws with
  | .ok => .going (emit e s)
  | .err => .ended (transportFail e (emit e s))

/-- `BusBegin()` with its failure (R110, R111). -/
def tryBegin (s : State) : Attempt := tryEvent (.beginEv (addrByte s.cfg.addr)) s

/-- `BusByte(b)` with its failure (R110). -/
def tryByte (b : Byte) (s : State) : Attempt := tryEvent (.byteEv b) s

/-- `BusEnd()` with its failure (R110). -/
def tryEnd (s : State) : Attempt := tryEvent .endEv s

/-- A command byte after its control byte, counted first (R82, R114, R121). -/
def tryCommandByte (c : Byte) (s : State) : Attempt :=
  (tryByte ctrlCmd (addCount 2 s)).bind (tryByte c)

/-- The command bytes of a group, in order (R121). No command byte changes DISP (R57; of raw commands UNVERIFIED, unsafe,
log entry 11). -/
def tryCommandBytes : List Byte → State → Attempt
  | [], s => .going s
  | c :: g, s => (tryCommandByte c s).bind (tryCommandBytes g)

/-- `SendGroup(g)`: one command group as one command frame (R121). -/
def sendGroup (g : List Byte) (s : State) : Attempt :=
  (((tryBegin (openFrame .cmd 0 s)).bind (tryCommandBytes g)).bind tryEnd).map closeFrame

/-- `SendGroup` of each group in order; a failure ends the operation, so no later group is sent (R121). -/
def sendGroups : List (List Byte) → State → Attempt
  | [], s => .going s
  | g :: gs, s => (sendGroup g s).bind (sendGroups gs)

/-! ## Reset (R230 to R232) -/

/-- Every register of the block at its reset value (R33). -/
def resetRegisters (s : State) : State :=
  { s with
    cfg := { addr := 0, configured := false }
    initDone := false
    frame := .idle
    txn := { count := 0, col0 := 0 }
    cur := { valid := false, page := 0, col := 0 }
    status := .ok
    errlog := 0 }

/-- Block reset: the registers alone; LOG and DISP stay (R231). -/
def blockReset (s : State) : State := resetRegisters s

/-- Power-on reset: the registers, LOG, `pc` and DISP (R230). -/
def powerOnReset (s : State) : State := { resetRegisters s with log := [], pc := 0, disp := [] }

/-- The reset the host asked for, taken once (R241, log entry 9). Neither emits a bus event (R232). -/
def takeReset (k : ResetKind) (s : State) : State :=
  match k with
  | .powerOn => { powerOnReset s with resetReq := none }
  | .block => { blockReset s with resetReq := none }

/-- Starting a machine with the parameters `c`, which it refuses unless they pass the check (00_scope.md section 4, R172;
DESIGN CHOICE, safe, log entry 14). -/
def powerOn (c : Config) : Host.Outcome State Fault Refusal :=
  if c.wf then .next (State.initial c) else .refused .malformedConfig

/-! ## The host port (R21, R240) -/

/-- The word the host issues next, `P[pc]`; none at the end of the run (R21, R240). -/
def fetch (s : State) : Option OpWord := s.program[s.pc]?

/-- `pc <- pc + 1`, whatever status the operation returned (R21). -/
def advancePc (s : State) : State := { s with pc := s.pc + 1 }

/-- An illegal word: `raise ERR_ILLEGAL` and nothing else (R92, R93). -/
def execIllegal (s : State) : State := raise .illegal s

/-- A program with `w` at index n; a shorter one is filled up with zero words, which are illegal (R92). -/
def placeWord : List OpWord → Nat → OpWord → List OpWord
  | [], 0, w => [w]
  | _ :: p, 0, w => w :: p
  | [], n + 1, w => 0 :: placeWord [] n w
  | x :: p, n + 1, w => x :: placeWord p n w

end Sys2Proof.Machine
end

