-- ==== Sys2Proof/Machine/Addressing.lean ====
section
/-! DEFINITION. SET_POSITION, the one addressing operation (41_addressing.md R150). -/

namespace Sys2Proof.Machine

/-- SET_POSITION r, c (R150). -/
def execSetPosition (row : BitVec 4) (col : BitVec 8) (s : State) : Host.Outcome State Fault Refusal :=
  if s.cfg.configured = false then reject .config s
  else if s.initDone = false then reject .notInit s
  else if s.frame ≠ .idle then reject .frame s
  else if inRange row col = false then reject .range s
  else
    ((sendGroups (positionGroups s.config.cmdEnc row col) (clearCursor s)).map
      (setCursor (rowPage row) col)).complete .ok

end Sys2Proof.Machine
end

