-- ==== Sys2Proof/Machine/Framer.lean ====
section
/-! DEFINITION. The protocol framer operations of 40_framer.md (R113 to R119). The checks stand in the order of R202. -/

namespace Sys2Proof.Machine

/-- BEGIN_CMD (R113). -/
def execBeginCmd (s : State) : Host.Outcome State Fault Refusal :=
  if s.cfg.configured = false then reject .config s
  else if s.frame ≠ .idle then reject .frame s
  else (tryBegin (openFrame .cmd 0 (clearCursor s))).complete .ok

/-- CMD_BYTE c (R114). -/
def execCmdByte (c : Byte) (s : State) : Host.Outcome State Fault Refusal :=
  if s.frame ≠ .cmd then reject .frame s
  else if s.config.txnCap.admits (s.txn.count + 2) = false then reject .full s
  else (tryCommandByte c s).complete .ok

/-- END_CMD (R115). -/
def execEndCmd (s : State) : Host.Outcome State Fault Refusal :=
  if s.frame ≠ .cmd then reject .frame s
  else if s.txn.count = 0 then reject .frame s
  else ((tryEnd s).map closeFrame).complete .ok

/-- BEGIN_DATA (R116). -/
def execBeginData (s : State) : Host.Outcome State Fault Refusal :=
  if s.cfg.configured = false then reject .config s
  else if s.initDone = false then reject .notInit s
  else if s.frame ≠ .idle then reject .frame s
  else if s.cur.valid = false then reject .cursor s
  else ((tryBegin (markColumn (openFrame .data 1 s))).bind (tryByte ctrlData)).complete .ok

/-- DATA_BYTE v (R117). The cell is the one at CUR as it stood before the byte (R53). A column above 128 is no value of CUR
(R27) and no state reaches it; what the byte does there is log entry 10. -/
def execDataByte (v : Byte) (s : State) : Host.Outcome State Fault Refusal :=
  if s.frame ≠ .data then reject .frame s
  else if s.cur.col.toNat = nCols then .next (finish .clipped s)
  else if s.config.txnCap.admits (s.txn.count + 1) = false then reject .full s
  else
    match tryByte v (advanceCursor s) with
    | .ended t => .next t
    | .going t =>
      match memWrite (cellAddr s.cur.page s.cur.col) v t with
      | .ok u => .next (finish .ok u)
      | .error f => .fault f

/-- END_DATA (R118). -/
def execEndData (s : State) : Host.Outcome State Fault Refusal :=
  if s.frame ≠ .data then reject .frame s
  else ((tryEnd (clearCursor s)).map closeFrame).complete .ok

/-- SEND_COMMAND c (R119). -/
def execSendCommand (c : Byte) (s : State) : Host.Outcome State Fault Refusal :=
  if s.cfg.configured = false then reject .config s
  else if s.frame ≠ .idle then reject .frame s
  else (sendGroup [c] (clearCursor s)).complete .ok

end Sys2Proof.Machine
end

