-- ==== Sys2Proof/Machine/Registers.lean ====
section
/-! DEFINITION. Configuration, initialization and the three passthroughs of 42_register_programming.md (R170 to R175). -/

namespace Sys2Proof.Machine

/-- CONFIG a (R170). No bus event. -/
def execConfig (a : Addr7) (s : State) : Host.Outcome State Fault Refusal :=
  if s.cfg.configured = true then reject .config s
  else if s.config.addrSet.contains a = false then reject .config s
  else .next (finish .ok { s with cfg := { addr := a, configured := true } })

/-- `INIT.done <- b` (R171). -/
def setInitDone (b : Bool) (s : State) : State := { s with initDone := b }

/-- INITIALIZE (R171). -/
def execInitialize (s : State) : Host.Outcome State Fault Refusal :=
  if s.cfg.configured = false then reject .config s
  else if s.frame ≠ .idle then reject .frame s
  else ((sendGroups s.config.initSeq (clearCursor (setInitDone false s))).map (setInitDone true)).complete .ok

/-- The shared shape of the passthroughs: one command group, after the checks (R173 to R176). -/
def passthrough (g : List Byte) (s : State) : Host.Outcome State Fault Refusal :=
  if s.cfg.configured = false then reject .config s
  else if s.initDone = false then reject .notInit s
  else if s.frame ≠ .idle then reject .frame s
  else (sendGroup g (clearCursor s)).complete .ok

/-- SET_CONTRAST l (R173). -/
def execSetContrast (level : Byte) (s : State) : Host.Outcome State Fault Refusal :=
  passthrough (contrastGroup s.config.cmdEnc level) s

/-- INVERT_SCREEN f (R174). -/
def execInvertScreen (f : Bool) (s : State) : Host.Outcome State Fault Refusal :=
  passthrough (invertGroup s.config.cmdEnc f) s

/-- SLEEP f (R175). -/
def execSleep (f : Bool) (s : State) : Host.Outcome State Fault Refusal :=
  passthrough (sleepGroup s.config.cmdEnc f) s

end Sys2Proof.Machine
end

