-- ==== Sys2Proof/Machine/Dispatch.lean ====
section
/-! DEFINITION. Which meaning each operation has: one arm per constructor of Instr. -/

namespace Sys2Proof.Machine

def exec (i : Instr) (s : State) : Host.Outcome State Fault Refusal :=
  match i with
  | .config addr7 => Sys2Proof.Machine.execConfig addr7 s
  | .initialise => Sys2Proof.Machine.execInitialize s
  | .beginCmd => Sys2Proof.Machine.execBeginCmd s
  | .cmdByte imm8 => Sys2Proof.Machine.execCmdByte imm8 s
  | .endCmd => Sys2Proof.Machine.execEndCmd s
  | .beginData => Sys2Proof.Machine.execBeginData s
  | .dataByte imm8 => Sys2Proof.Machine.execDataByte imm8 s
  | .endData => Sys2Proof.Machine.execEndData s
  | .sendCommand imm8 => Sys2Proof.Machine.execSendCommand imm8 s
  | .setPosition row col => Sys2Proof.Machine.execSetPosition row col s
  | .setContrast imm8 => Sys2Proof.Machine.execSetContrast imm8 s
  | .invertScreen flag => Sys2Proof.Machine.execInvertScreen flag s
  | .sleep flag => Sys2Proof.Machine.execSleep flag s

end Sys2Proof.Machine
end

