-- ==== Sys2Proof/Machine/Run.lean ====
section
/-! DEFINITION. What one word of the host does. The host issues one word at a time; unserialized callers are not modelled
(R66, R207; log entry 20). -/

namespace Sys2Proof.Machine

/-- What a word does: its operation, or ERR_ILLEGAL (R92 to R94). -/
def runWord (w : OpWord) (s : State) : Host.Outcome State Fault Refusal :=
  match decode w with
  | .ok i => exec i s
  | .error _ => .next (execIllegal s)

/-- After a word, whatever its status, the host index moves on (R21). -/
def thenAdvance : Host.Outcome State Fault Refusal → Host.Outcome State Fault Refusal
  | .next t => .next (advancePc t)
  | .fault f => .fault f
  | .refused r => .refused r

end Sys2Proof.Machine
end

