-- ==== Sys2Proof/Machine/Step.lean ====
section
/-! DEFINITION. One step: a reset the host asked for, or else the next word of the host program (R21, R241). -/

namespace Sys2Proof.Machine

/-- The host's next interaction: its reset, taken once (R230, R231), or `P[pc]` and then `pc <- pc + 1` (R21). With no
word at `pc` the run has ended (R240). -/
def step (s : State) : Host.Outcome State Fault Refusal :=
  match s.resetReq with
  | some k => .next (takeReset k s)
  | none =>
    match fetch s with
    | some w => thenAdvance (runWord w s)
    | none => .fault .runEnded

/-- `s` with the word at its `pc`, and no reset asked for, so that the next step runs exactly that word (log entry 7). -/
def State.withFetchWord (s : State) (nbits w : Nat) : State :=
  { s with program := placeWord s.program s.pc (tableWord nbits w), resetReq := none }

end Sys2Proof.Machine
end

