-- ==== Sys2Proof/Machine/Observe.lean ====
section
/-! DEFINITION. Reading a bus log back into transactions and frames (R51, R80 to R83, R99), and the pixels of the display
memory (R15, R52). Observations only: no operation uses them. -/

namespace Sys2Proof.Machine

/-- A terminated transaction: its address byte and its payload (R51, R80). -/
structure Transaction where
  a8      : Byte
  payload : List Byte
  deriving DecidableEq, Repr

/-- The events of a transaction (R80). -/
def Transaction.events (t : Transaction) : List BusEvent :=
  .beginEv t.a8 :: t.payload.map .byteEv ++ [.endEv]

/-- The transactions of a log; the first argument is the open transaction, if any. None if the log is not well-bracketed
or ends inside a transaction (R51): the spec gives such a log no parse (DESIGN CHOICE, safe, log entry 22). -/
def splitLog : Option Transaction → List BusEvent → Option (List Transaction)
  | none, [] => some []
  | none, .beginEv a :: es => splitLog (some { a8 := a, payload := [] }) es
  | none, .byteEv _ :: _ => none
  | none, .endEv :: _ => none
  | some _, [] => none
  | some _, .beginEv _ :: _ => none
  | some t, .byteEv b :: es => splitLog (some { t with payload := t.payload ++ [b] }) es
  | some t, .endEv :: es => (splitLog none es).map (t :: ·)

/-- What a transaction is (R99). A cut-short transaction whose payload has a whole form reads as that form: the bytes do not
tell it from a finished one. -/
inductive Frame where
  /-- A command payload with its command bytes (R82). -/
  | command (cs : List Byte)
  /-- A data payload with its data bytes (R83). -/
  | data (ds : List Byte)
  /-- A transport error cut it short: the payload is empty or stops behind a 0x00 of a command payload (R99, R112). -/
  | aborted (payload : List Byte)
  /-- A captured payload of neither form, which the block never sends. The spec is silent on it; that the parse answers this
  is the model's choice (DESIGN CHOICE, safe, log entry 22). -/
  | foreign (payload : List Byte)
  deriving DecidableEq, Repr

/-- The command payload of some command bytes (R82). -/
def commandPayload : List Byte → List Byte
  | [] => []
  | c :: cs => ctrlCmd :: c :: commandPayload cs

/-- The data payload of some data bytes (R83). -/
def dataPayload (ds : List Byte) : List Byte := ctrlData :: ds

/-- The command bytes of a payload that alternates 0x00 and command bytes (R82, R99). -/
def commandBytes : List Byte → Option (List Byte)
  | [] => some []
  | [_] => none
  | b :: c :: bs => if b = ctrlCmd then (commandBytes bs).map (c :: ·) else none

/-- The payload alternates 0x00 and command bytes from its start on, whether or not it stops behind a 0x00. -/
def alternates : List Byte → Bool
  | [] => true
  | [b] => decide (b = ctrlCmd)
  | b :: _ :: bs => decide (b = ctrlCmd) && alternates bs

/-- "Each transaction's first payload byte says its kind" (R99). A payload that begins with neither 0x40 nor 0x00, or does
not alternate 0x00 and command bytes, is `foreign` by the model's choice (log entry 22). -/
def frameOf : List Byte → Frame
  | [] => .aborted []
  | b :: bs =>
    if b = ctrlData then .data bs
    else
      match commandBytes (b :: bs) with
      | some cs => .command cs
      | none => if alternates (b :: bs) then .aborted (b :: bs) else .foreign (b :: bs)

/-- The frames of a log with their address bytes (R99). -/
def framesOf (log : List BusEvent) : Option (List (Byte × Frame)) :=
  (splitLog none log).map fun ts => ts.map fun t => (t.a8, frameOf t.payload)

/-- The pixel-data bytes of a log: those inside data frames, after the control byte (90_conflicts.md C5). -/
def dataBytesOf (log : List BusEvent) : Option (List Byte) :=
  (framesOf log).map fun fs => fs.flatMap fun f =>
    match f.2 with
    | .command _ => []
    | .data ds => ds
    | .aborted _ => []
    | .foreign _ => []

/-- The bit that drives pixel k of a column, k = 0 the top one (R15). -/
def pixelBit (o : PixelBitOrder) (k : Fin 8) : Fin 8 :=
  match k with
  | 0 => o.pixel0
  | 1 => o.pixel1
  | 2 => o.pixel2
  | 3 => o.pixel3
  | 4 => o.pixel4
  | 5 => o.pixel5
  | 6 => o.pixel6
  | 7 => o.pixel7

/-- Pixel k of the column at a page and column: "each written byte sets 8 vertically-stacked pixels" (R52). It stops where
`memRead` does, and with `noSuchCell` at a column of 128 to 255: R8 and R52 have columns 0 to 127 only and say nothing of an
observation beyond them, so that stop is the model's choice (DESIGN CHOICE, safe, log entry 21). -/
def readPixel (page : BitVec 3) (col : BitVec 8) (k : Fin 8) (s : State) : Except Fault Bool :=
  if col.toNat < nCols then
    match memRead (cellAddr page col) s with
    | .ok v => .ok (v.getLsbD (pixelBit s.config.pixelBitOrder k).val)
    | .error f => .error f
  else .error .noSuchCell

end Sys2Proof.Machine
end

