-- ==== Sys2Proof/Safety.lean ====
section
/-! DEFINITION. The terms claims are stated in: the transport's answers, what a command frame puts on the bus, the state an
error leaves, the invariants of 10_state.md R32, the well-formed logs of R51 and R80 to R83, the table of causes of R200,
and the end of a run (R240). Nothing here is used by the machine. -/

namespace Sys2Proof.Machine

/-! ## The transport's answers (R14, R110) -/

/-- The next `n` acknowledge draws are all `ok`. -/
abbrev acked (n : Nat) (s : State) : Prop := ∀ k < n, s.answer (s.draws + k) = .ok

/-- The next `n` draws are `ok` and the one after them is `err`. -/
abbrev failsAt (n : Nat) (s : State) : Prop := acked n s ∧ s.answer (s.draws + n) = .err

/-! ## What goes on the bus -/

/-- The events of one command frame: Begin, each command byte after its own 0x00, End (R82, R121). -/
def groupEvents (a8 : Byte) (g : List Byte) : List BusEvent :=
  .beginEv a8 :: g.flatMap (fun c => [.byteEv 0x00, .byteEv c]) ++ [.endEv]

/-- The events of several command groups, each in a frame of its own (R121). -/
def groupsEvents (a8 : Byte) (gs : List (List Byte)) : List BusEvent := gs.flatMap (groupEvents a8)

/-- The events sent when number `n` of `es` is answered `err`: those up to it, and End unless it was the End (R112). -/
def abortedEvents (es : List BusEvent) (n : Nat) : List BusEvent :=
  es.take (n + 1) ++ (if es[n]? = some .endEv then [] else [.endEv])

/-! ## The state an error leaves -/

/-- What `raise E` writes: STATUS and bit E of ERRLOG (R201). -/
def rejected (e : ErrorCode) (s : State) : State :=
  { s with status := .error e, errlog := s.errlog ||| (1#16 <<< (errorCode e).toNat) }

/-- The events of `es` are on the log, each with its draw (R110). -/
def sent (es : List BusEvent) (s : State) : State :=
  { s with log := s.log ++ es, draws := s.draws + es.length }

/-- What a transport error leaves where no data frame was open and `es` are the events sent (R112, R201). -/
def endedWith (es : List BusEvent) (s : State) : State :=
  { s with
    frame := .idle
    txn.count := 0
    cur.valid := false
    status := .error .transport
    errlog := s.errlog ||| 0x0200#16
    log := s.log ++ es
    draws := s.draws + es.length }

/-- The same, for an operation whose events are `es` and whose event number `n` was answered `err`. -/
def cutShort (es : List BusEvent) (n : Nat) (s : State) : State := endedWith (abortedEvents es n) s

/-! ## Illegal words (R92, R93) -/

/-- "A word with `op` equal to 0x0, 0xE or 0xF" (R92). -/
abbrev hasReservedOpcode (w : OpWord) : Prop := w >>> 12 = 0x0#16 ∨ w >>> 12 = 0xE#16 ∨ w >>> 12 = 0xF#16

/-- "A word with a valid `op` but a nonzero must-be-zero field": bits 11:0 of format N, 11:8 of B, 11:1 of F, 11:7 of A (R93). -/
abbrev hasNonzeroField (w : OpWord) : Prop :=
  ((w >>> 12).toNat ∈ [2, 3, 5, 6, 8] ∧ w &&& 0x0FFF#16 ≠ 0#16) ∨
  ((w >>> 12).toNat ∈ [4, 7, 9, 11] ∧ w &&& 0x0F00#16 ≠ 0#16) ∨
  ((w >>> 12).toNat ∈ [12, 13] ∧ w &&& 0x0FFE#16 ≠ 0#16) ∨
  ((w >>> 12).toNat = 1 ∧ w &&& 0x0F80#16 ≠ 0#16)

/-! ## Invariants -/

/-- The invariants of R32, in its order, with what they rest on: the parameters pass their check (00_scope.md section 4)
and a configured address is an accepted one (R23). `CUR.page <= 7` holds by the field's width. -/
abbrev RegInv (s : State) : Prop :=
  s.config.wf = true ∧
  (s.cfg.configured = true → s.config.addrSet.contains s.cfg.addr = true) ∧
  (s.frame ≠ .idle → s.cfg.configured = true) ∧
  (s.initDone = true → s.cfg.configured = true) ∧
  (s.frame = .idle → s.txn.count = 0) ∧
  (s.frame = .data → s.cur.valid = true ∧ s.initDone = true ∧ s.txn.col0.toNat ≤ s.cur.col.toNat ∧
    s.cur.col.toNat ≤ 128 ∧ s.txn.count = 1 + (s.cur.col.toNat - s.txn.col0.toNat)) ∧
  (s.frame = .cmd → s.cur.valid = false) ∧
  (s.cur.valid = true → s.cur.col.toNat ≤ 128) ∧
  s.config.txnCap.admits s.txn.count = true

/-- Bits 0, 1 and 10 to 15 of ERRLOG are never set (R29). -/
abbrev ErrlogInv (s : State) : Prop := s.errlog &&& 0xFC03#16 = 0#16

/-- Where a bus log stands, event by event (R51, R80, R82, R83). -/
inductive BusPhase where
  /-- No transaction is open. -/
  | closed
  /-- After Begin. -/
  | opened
  /-- In a command payload, after 0x00. -/
  | marked
  /-- In a command payload, after a command byte. -/
  | command
  /-- In a data payload. -/
  | data
  deriving DecidableEq, Repr

/-- The phase after one event; none where no transaction of the block has that event there (R80 to R83). End may come in
every open phase, since a transport error can cut a transaction short (R99). -/
def BusPhase.after : BusPhase → BusEvent → Option BusPhase
  | .closed, .beginEv _ => some .opened
  | .closed, .byteEv _ => none
  | .closed, .endEv => none
  | .opened, .beginEv _ => none
  | .opened, .byteEv b => if b = 0x00 then some .marked else if b = 0x40 then some .data else none
  | .opened, .endEv => some .closed
  | .marked, .beginEv _ => none
  | .marked, .byteEv _ => some .command
  | .marked, .endEv => some .closed
  | .command, .beginEv _ => none
  | .command, .byteEv b => if b = 0x00 then some .marked else none
  | .command, .endEv => some .closed
  | .data, .beginEv _ => none
  | .data, .byteEv _ => some .data
  | .data, .endEv => some .closed

/-- The phase after a log, from `p` on. -/
def scanLog : BusPhase → List BusEvent → Option BusPhase
  | p, [] => some p
  | p, e :: es =>
    match p.after e with
    | some q => scanLog q es
    | none => none

/-- The phase that FRAME and TXN say the log is in (R25, R26). -/
def framePhase (s : State) : BusPhase :=
  match s.frame with
  | .idle => .closed
  | .cmd => if s.txn.count = 0 then .opened else .command
  | .data => .data

/-- LOG is well-bracketed, its payloads have the forms of R82 and R83, and its last transaction is open exactly as FRAME
says (R25, R51, R80). -/
abbrev LogInv (s : State) : Prop := scanLog .closed s.log = some (framePhase s)

/-! ## The causes of an error (R200, R202) -/

/-- The operations that check `CFG.configured = 1` (R200, code 3). -/
def needsConfig : Instr → Bool
  | .config _ => false
  | .initialise => true
  | .beginCmd => true
  | .cmdByte _ => false
  | .endCmd => false
  | .beginData => true
  | .dataByte _ => false
  | .endData => false
  | .sendCommand _ => true
  | .setPosition _ _ => true
  | .setContrast _ => true
  | .invertScreen _ => true
  | .sleep _ => true

/-- The operations that check `INIT.done = 1` (R200, code 4). -/
def needsInit : Instr → Bool
  | .config _ => false
  | .initialise => false
  | .beginCmd => false
  | .cmdByte _ => false
  | .endCmd => false
  | .beginData => true
  | .dataByte _ => false
  | .endData => false
  | .sendCommand _ => false
  | .setPosition _ _ => true
  | .setContrast _ => true
  | .invertScreen _ => true
  | .sleep _ => true

/-- The frame state an operation needs; none for CONFIG (R200, code 5). -/
def needsFrame : Instr → Option FrameState
  | .config _ => none
  | .initialise => some .idle
  | .beginCmd => some .idle
  | .cmdByte _ => some .cmd
  | .endCmd => some .cmd
  | .beginData => some .idle
  | .dataByte _ => some .data
  | .endData => some .data
  | .sendCommand _ => some .idle
  | .setPosition _ _ => some .idle
  | .setContrast _ => some .idle
  | .invertScreen _ => some .idle
  | .sleep _ => some .idle

/-- CONFIG is refused: already configured, or an address not in ADDR_SET (R170, R200, code 3). -/
def refusesConfig : Instr → State → Bool
  | .config a => fun s => s.cfg.configured || !s.config.addrSet.contains a
  | .initialise => fun _ => false
  | .beginCmd => fun _ => false
  | .cmdByte _ => fun _ => false
  | .endCmd => fun _ => false
  | .beginData => fun _ => false
  | .dataByte _ => fun _ => false
  | .endData => fun _ => false
  | .sendCommand _ => fun _ => false
  | .setPosition _ _ => fun _ => false
  | .setContrast _ => fun _ => false
  | .invertScreen _ => fun _ => false
  | .sleep _ => fun _ => false

/-- The position lies off the grid: `row > 7` or `column > 127` (R200, code 6). -/
def offGrid : Instr → Bool
  | .config _ => false
  | .initialise => false
  | .beginCmd => false
  | .cmdByte _ => false
  | .endCmd => false
  | .beginData => false
  | .dataByte _ => false
  | .endData => false
  | .sendCommand _ => false
  | .setPosition r c => decide (r.toNat > 7 ∨ c.toNat > 127)
  | .setContrast _ => false
  | .invertScreen _ => false
  | .sleep _ => false

/-- How many bytes the operation adds to an open transaction (R114, R117). -/
def bytesNeeded : Instr → Nat
  | .config _ => 0
  | .initialise => 0
  | .beginCmd => 0
  | .cmdByte _ => 2
  | .endCmd => 0
  | .beginData => 0
  | .dataByte _ => 1
  | .endData => 0
  | .sendCommand _ => 0
  | .setPosition _ _ => 0
  | .setContrast _ => 0
  | .invertScreen _ => 0
  | .sleep _ => 0

/-- Whether a cause of R200 applies to an operation in a state, whatever other causes apply. The codes ILLEGAL and
TRANSPORT are no check of an operation. -/
def causeApplies (i : Instr) (s : State) : ErrorCode → Bool
  | .illegal => false
  | .config => (needsConfig i && !s.cfg.configured) || refusesConfig i s
  | .notInit => needsInit i && !s.initDone
  | .frame =>
    (match needsFrame i with
      | none => false
      | some f => decide (s.frame ≠ f)) || (decide (i = .endCmd) && decide (s.txn.count = 0))
  | .range => offGrid i
  | .cursor => decide (i = .beginData) && !s.cur.valid
  | .full => decide (bytesNeeded i ≠ 0) && !s.config.txnCap.admits (s.txn.count + bytesNeeded i)
  | .transport => false

/-- DATA_BYTE at the right edge, which is reported before ERR_FULL (R117, R202). -/
abbrev clips (i : Instr) (s : State) : Prop := bytesNeeded i = 1 ∧ s.cur.col.toNat = 128

/-- The composite operations (R120). -/
def isComposite : Instr → Bool
  | .config _ => false
  | .initialise => true
  | .beginCmd => false
  | .cmdByte _ => false
  | .endCmd => false
  | .beginData => false
  | .dataByte _ => false
  | .endData => false
  | .sendCommand _ => true
  | .setPosition _ _ => true
  | .setContrast _ => true
  | .invertScreen _ => true
  | .sleep _ => true

/-- The operations that can write or forget a display cell: they run while, or open, a data frame (R53, R54). -/
def touchesDisplay : Instr → Bool
  | .dataByte _ => true
  | .endData => true
  | .config _ => false
  | .initialise => false
  | .beginCmd => false
  | .cmdByte _ => false
  | .endCmd => false
  | .beginData => false
  | .sendCommand _ => false
  | .setPosition _ _ => false
  | .setContrast _ => false
  | .invertScreen _ => false
  | .sleep _ => false

/-- Everything of the machine that no operation changes: the host's side (R21) and, by the model's choice of where they stand,
the parameters, the transport's settled answers and the reset request (log entries 1, 3, 9). -/
abbrev SameHost (s t : State) : Prop :=
  t.pc = s.pc ∧ t.program = s.program ∧ t.config = s.config ∧ t.acks = s.acks ∧ t.resetReq = s.resetReq

/-- Every cell of the display memory reads as before. -/
abbrev SameDisplay (s t : State) : Prop := ∀ a, t.disp.read a = s.disp.read a

/-! ## The end of a run (R240) and premises of claims -/

/-- The run has ended: `pc = len(P)` (R240). -/
abbrev RunEnded (s : State) : Prop := s.pc = s.program.length

/-- The run is well-ended (R240). -/
abbrev WellEnded (s : State) : Prop := RunEnded s ∧ s.frame = .idle

/-- "No error occurred" (R29). -/
abbrev NoError (s : State) : Prop := s.errlog = 0

/-- The host sends no raw command: the premise R57 asks for in claims about the display. -/
def isRawCommand : Instr → Bool
  | .cmdByte _ => true
  | .sendCommand _ => true
  | .config _ => false
  | .initialise => false
  | .beginCmd => false
  | .endCmd => false
  | .beginData => false
  | .dataByte _ => false
  | .endData => false
  | .setPosition _ _ => false
  | .setContrast _ => false
  | .invertScreen _ => false
  | .sleep _ => false

end Sys2Proof.Machine
end

