-- ==== Sys2Proof/Certificates/Slice0/Obligations.lean ====
section
/-! DEFINITION. The statements about the model, for the provers. In them `sent es s` is `s` with the events `es` on the log
and their draws taken, `rejected e s` is `s` with STATUS and bit e of ERRLOG written, `cutShort es n s` is what a transport
error at event n of `es` leaves, and `acked n s`, `failsAt n s` are premises on the transport's next answers
(Sys2Proof/Safety.lean). -/

open Sys2Proof Sys2Proof.Machine

/-! ## Encoding -/

/-- R91, R86 to R90: no bit of an operand is dropped. -/
def Obligations.DecodeOfEncodeIsTheOperation : Prop := ∀ i : Instr, decode (encode i) = .ok i

/-- R94: a word decodes to an operation only if it is that operation's word. -/
def Obligations.OnlyItsOwnWordDecodesToAnOperation : Prop := ∀ (w : OpWord) (i : Instr), decode w = .ok i → encode i = w

/-- R91, R92, R93: a word selects exactly the row of the operation it decodes to, and an illegal word selects none. -/
def Obligations.DecoderAgreesWithTheOpcodeTable : Prop :=
  ∀ (w : OpWord) (r : Row), r ∈ opcodeTable →
    (r.selects w = true ↔ ∃ i, decode w = .ok i ∧ mnemonic i = r.mnemonic)

/-- R91: no word selects two rows. -/
def Obligations.OpcodeRowsAreDisjoint : Prop :=
  opcodeTable.Pairwise fun r q => ∀ w : OpWord, ¬ (r.selects w = true ∧ q.selects w = true)

/-- R92, R93: a word is rejected as reserved exactly if its opcode is 0x0, 0xE or 0xF, and for a must-be-zero field exactly
if its opcode is another one and the field of that opcode's format is not zero. -/
def Obligations.IllegalWordsAreReservedOrNonzero : Prop :=
  ∀ w : OpWord,
    (decode w = .error .reservedOpcode ↔ hasReservedOpcode w) ∧ (decode w = .error .mustBeZero ↔ hasNonzeroField w)

/-- Words of 95_test_vectors.md and of the assembly table of R97, read by hand. A sanity statement. -/
def Obligations.SampleWordsDecodeAsTheSpecSays : Prop :=
  decode 0x103C#16 = .ok (.config 0x3C#7) ∧ decode 0x2000#16 = .ok .initialise ∧
  decode 0x40A4#16 = .ok (.cmdByte 0xA4#8) ∧ decode 0x707E#16 = .ok (.dataByte 0x7E#8) ∧
  decode 0x90AF#16 = .ok (.sendCommand 0xAF#8) ∧ decode 0xA25A#16 = .ok (.setPosition 2#4 90#8) ∧
  decode 0xB07F#16 = .ok (.setContrast 0x7F#8) ∧ decode 0xC001#16 = .ok (.invertScreen true) ∧
  decode 0xD000#16 = .ok (.sleep false) ∧ decode 0x1080#16 = .error .mustBeZero ∧
  decode 0x0000#16 = .error .reservedOpcode

/-- R97, R98: what the assembler gives out decodes back to the operations the statement stands for. Which words these are
is AssemblerGivesTheWordsOfTheSpec and AssemblerExpandsThePseudoInstructions. -/
def Obligations.AssembledWordsDecodeBack : Prop :=
  ∀ (st : Stmt) (ws : List OpWord), assemble st = some ws → ws.map decode = st.instrs.map Except.ok

/-! ## Reset and configuration -/

/-- R33, R230: the registers, LOG, DISP and pc at reset. -/
def Obligations.ResetLeavesTheSpecsValues : Prop :=
  State.reset.cfg = { addr := 0, configured := false } ∧ State.reset.initDone = false ∧ State.reset.frame = .idle ∧
  State.reset.txn = { count := 0, col0 := 0 } ∧ State.reset.cur = { valid := false, page := 0, col := 0 } ∧
  State.reset.status = .ok ∧ State.reset.errlog = 0 ∧ State.reset.pc = 0 ∧ State.reset.log = [] ∧
  ∀ a, State.reset.disp.read a = none

/-- 00_scope.md section 4, R172: a machine starts with its parameters exactly if they pass the check. -/
def Obligations.MalformedParametersAreRefused : Prop :=
  ∀ c : Config,
    ((∃ n, c.txnCap = .bounded n ∧ n < 4) ∨
      (∃ g ∈ c.initSeq, g = [] ∨ ∃ n, c.txnCap = .bounded n ∧ n < 2 * g.length) →
        powerOn c = .refused .malformedConfig) ∧
    ((∀ n, c.txnCap = .bounded n → 4 ≤ n ∧ ∀ g ∈ c.initSeq, 2 * g.length ≤ n) → (∀ g ∈ c.initSeq, g ≠ []) →
        ∃ s, powerOn c = .next s ∧ s.config = c ∧ RegInv s)

/-- R231, R232: a block reset resets the registers and leaves LOG, DISP and the host's index. That the host asks for it
through `resetReq`, and that its index stays, is the model's choice (log entry 9). -/
def Obligations.BlockResetResetsTheRegistersAlone : Prop :=
  ∀ s : State, s.resetReq = some .block →
    step s = .next { s with
      cfg := { addr := 0, configured := false }, initDone := false, frame := .idle, txn := { count := 0, col0 := 0 },
      cur := { valid := false, page := 0, col := 0 }, status := .ok, errlog := 0, resetReq := none }

/-- R230: a power-on reset also empties LOG, sets pc to 0 and makes every cell Unknown. That the host asks for it through
`resetReq` is the model's choice (log entry 9). -/
def Obligations.PowerOnResetAlsoClearsLogIndexAndDisplay : Prop :=
  ∀ s : State, s.resetReq = some .powerOn →
    ∃ t, step s = .next t ∧ (∀ a, t.disp.read a = none) ∧
      t = { s with
        cfg := { addr := 0, configured := false }, initDone := false, frame := .idle, txn := { count := 0, col0 := 0 },
        cur := { valid := false, page := 0, col := 0 }, status := .ok, errlog := 0, log := [], pc := 0, disp := t.disp,
        resetReq := none }

/-! ## Stepping (R21, R240) -/

/-- R21: the word at pc runs, and then pc moves on by one; no operation of the table is refused (R241). -/
def Obligations.StepRunsTheDecodedOperation : Prop :=
  ∀ (s : State) (w : OpWord) (i : Instr), s.resetReq = none → s.program[s.pc]? = some w → decode w = .ok i →
    (∀ t, exec i s = .next t → step s = .next { t with pc := t.pc + 1 }) ∧
    (∀ f, exec i s = .fault f → step s = .fault f) ∧
    (∀ r, exec i s ≠ .refused r)

/-- R92, R93: a word with a reserved opcode or a nonzero must-be-zero field raises ERR_ILLEGAL, and only the host's index
moves besides. -/
def Obligations.IllegalWordRaisesErrIllegal : Prop :=
  ∀ (s : State) (w : OpWord), s.resetReq = none → s.program[s.pc]? = some w → hasReservedOpcode w ∨ hasNonzeroField w →
    step s = .next { s with status := .error .illegal, errlog := s.errlog ||| 0x0004#16, pc := s.pc + 1 }

/-- R240: past the last word the run has ended. The stop is the model's form of it (log entry 8). -/
def Obligations.RunEndsAfterTheLastWord : Prop :=
  ∀ s : State, s.resetReq = none → s.program.length ≤ s.pc → step s = .fault .runEnded

/-- R21: whatever a word does, pc advances by one over the program P, which stays. That the parameters, the transport's
settled answers and the absent reset request are fields of the state that stay too is the model's choice (log entries 1, 3
and 9). -/
def Obligations.HostIndexAdvancesByOneWord : Prop :=
  ∀ s t : State, s.resetReq = none → step s = .next t →
    t.pc = s.pc + 1 ∧ t.program = s.program ∧ t.config = s.config ∧ t.acks = s.acks ∧ t.resetReq = none

/-- "Every operation is a single atomic step that always returns" (R240), from the states of R32. -/
def Obligations.EveryOperationReturns : Prop :=
  ∀ s : State, RegInv s → s.resetReq = none → s.pc < s.program.length → ∃ t, step s = .next t

/-! ## The operations, whole -/

/-- R170. -/
def Obligations.ConfigFixesTheAddressOnce : Prop :=
  ∀ (a : Addr7) (s : State),
    encode (.config a) = 0x1000#16 ||| a.setWidth 16 ∧
    (s.cfg.configured = true → exec (.config a) s = .next (rejected .config s)) ∧
    (s.cfg.configured = false → a ∉ s.config.addrSet → exec (.config a) s = .next (rejected .config s)) ∧
    (s.cfg.configured = false → a ∈ s.config.addrSet →
      exec (.config a) s = .next { s with cfg := { addr := a, configured := true }, status := .ok })

/-- R171. With an empty INIT_SEQ no frame is opened, and TXN is left alone. -/
def Obligations.InitializeSendsInitSeq : Prop :=
  ∀ s : State,
    encode .initialise = 0x2000#16 ∧
    (s.cfg.configured = false → exec .initialise s = .next (rejected .config s)) ∧
    (s.cfg.configured = true → s.frame ≠ .idle → exec .initialise s = .next (rejected .frame s)) ∧
    (s.cfg.configured = true → s.frame = .idle →
      let es := groupsEvents (addrByte s.cfg.addr) s.config.initSeq
      (acked es.length s → exec .initialise s = .next { sent es s with
        initDone := true, cur.valid := false, status := .ok,
        txn.count := if s.config.initSeq = [] then s.txn.count else 0 }) ∧
      ∀ n < es.length, failsAt n s → exec .initialise s = .next { cutShort es n s with initDone := false })

/-- R113. -/
def Obligations.BeginCmdOpensACommandFrame : Prop :=
  ∀ s : State,
    encode .beginCmd = 0x3000#16 ∧
    (s.cfg.configured = false → exec .beginCmd s = .next (rejected .config s)) ∧
    (s.cfg.configured = true → s.frame ≠ .idle → exec .beginCmd s = .next (rejected .frame s)) ∧
    (s.cfg.configured = true → s.frame = .idle →
      (acked 1 s → exec .beginCmd s = .next { sent [.beginEv (addrByte s.cfg.addr)] s with
        cur.valid := false, frame := .cmd, txn.count := 0, status := .ok }) ∧
      (failsAt 0 s → exec .beginCmd s = .next (cutShort [.beginEv (addrByte s.cfg.addr)] 0 s)))

/-- R114. -/
def Obligations.CmdByteSendsControlByteAndCommand : Prop :=
  ∀ (c : Byte) (s : State),
    encode (.cmdByte c) = 0x4000#16 ||| c.setWidth 16 ∧
    (s.frame ≠ .cmd → exec (.cmdByte c) s = .next (rejected .frame s)) ∧
    (s.frame = .cmd → s.config.txnCap.admits (s.txn.count + 2) = false →
      exec (.cmdByte c) s = .next (rejected .full s)) ∧
    (s.frame = .cmd → s.config.txnCap.admits (s.txn.count + 2) = true →
      (acked 2 s → exec (.cmdByte c) s = .next { sent [.byteEv 0x00, .byteEv c] s with
        txn.count := s.txn.count + 2, status := .ok }) ∧
      ∀ n < 2, failsAt n s → exec (.cmdByte c) s = .next (cutShort [.byteEv 0x00, .byteEv c] n s))

/-- R115. -/
def Obligations.EndCmdClosesANonemptyCommandFrame : Prop :=
  ∀ s : State,
    encode .endCmd = 0x5000#16 ∧
    (s.frame ≠ .cmd ∨ s.txn.count = 0 → exec .endCmd s = .next (rejected .frame s)) ∧
    (s.frame = .cmd → s.txn.count ≠ 0 →
      (acked 1 s → exec .endCmd s = .next { sent [.endEv] s with frame := .idle, txn.count := 0, status := .ok }) ∧
      (failsAt 0 s → exec .endCmd s = .next (cutShort [.endEv] 0 s)))

/-- R116. -/
def Obligations.BeginDataOpensADataFrameAtTheCursor : Prop :=
  ∀ s : State,
    encode .beginData = 0x6000#16 ∧
    (s.cfg.configured = false → exec .beginData s = .next (rejected .config s)) ∧
    (s.cfg.configured = true → s.initDone = false → exec .beginData s = .next (rejected .notInit s)) ∧
    (s.cfg.configured = true → s.initDone = true → s.frame ≠ .idle →
      exec .beginData s = .next (rejected .frame s)) ∧
    (s.cfg.configured = true → s.initDone = true → s.frame = .idle → s.cur.valid = false →
      exec .beginData s = .next (rejected .cursor s)) ∧
    (s.cfg.configured = true → s.initDone = true → s.frame = .idle → s.cur.valid = true →
      (acked 2 s → exec .beginData s = .next { sent [.beginEv (addrByte s.cfg.addr), .byteEv 0x40] s with
        frame := .data, txn := { count := 1, col0 := s.cur.col }, status := .ok }) ∧
      ∀ n < 2, failsAt n s → exec .beginData s = .next
        { cutShort [.beginEv (addrByte s.cfg.addr), .byteEv 0x40] n s with txn.col0 := s.cur.col })

/-- R117, R53, for the columns 0 to 128 that CUR can hold (R27). The failure's Unknown cells are those of R112. -/
def Obligations.DataByteWritesTheCellAtTheCursor : Prop :=
  ∀ (v : Byte) (s : State), s.cur.col.toNat ≤ 128 →
    encode (.dataByte v) = 0x7000#16 ||| v.setWidth 16 ∧
    (s.frame ≠ .data → exec (.dataByte v) s = .next (rejected .frame s)) ∧
    (s.frame = .data → s.cur.col.toNat = 128 → exec (.dataByte v) s = .next { s with status := .clipped }) ∧
    (s.frame = .data → s.cur.col.toNat ≠ 128 → s.config.txnCap.admits (s.txn.count + 1) = false →
      exec (.dataByte v) s = .next (rejected .full s)) ∧
    (s.frame = .data → s.cur.col.toNat ≠ 128 → s.config.txnCap.admits (s.txn.count + 1) = true →
      (acked 1 s → ∃ t, exec (.dataByte v) s = .next t ∧
        (∀ a, t.disp.read a = if a = s.cur.page.toNat * 128 + s.cur.col.toNat then some v else s.disp.read a) ∧
        t = { sent [.byteEv v] s with
          cur.col := s.cur.col + 1, txn.count := s.txn.count + 1, status := .ok, disp := t.disp }) ∧
      (failsAt 0 s → ∃ t, exec (.dataByte v) s = .next t ∧
        (∀ a, t.disp.read a =
          if s.cur.page.toNat * 128 + s.txn.col0.toNat ≤ a ∧ a ≤ s.cur.page.toNat * 128 + s.cur.col.toNat
          then none else s.disp.read a) ∧
        t = { cutShort [.byteEv v] 0 s with cur.col := s.cur.col + 1, disp := t.disp }))

/-- R118. -/
def Obligations.EndDataClosesTheDataFrame : Prop :=
  ∀ s : State,
    encode .endData = 0x8000#16 ∧
    (s.frame ≠ .data → exec .endData s = .next (rejected .frame s)) ∧
    (s.frame = .data →
      (acked 1 s → exec .endData s = .next { sent [.endEv] s with
        cur.valid := false, frame := .idle, txn.count := 0, status := .ok }) ∧
      (failsAt 0 s → ∃ t, exec .endData s = .next t ∧
        (∀ a, t.disp.read a =
          if s.cur.page.toNat * 128 + s.txn.col0.toNat ≤ a ∧ a < s.cur.page.toNat * 128 + s.cur.col.toNat
          then none else s.disp.read a) ∧
        t = { cutShort [.endEv] 0 s with disp := t.disp }))

/-- R119. -/
def Obligations.SendCommandSendsOneCommandFrame : Prop :=
  ∀ (c : Byte) (s : State),
    let es : List BusEvent := [.beginEv (addrByte s.cfg.addr), .byteEv 0x00, .byteEv c, .endEv]
    encode (.sendCommand c) = 0x9000#16 ||| c.setWidth 16 ∧
    (s.cfg.configured = false → exec (.sendCommand c) s = .next (rejected .config s)) ∧
    (s.cfg.configured = true → s.frame ≠ .idle → exec (.sendCommand c) s = .next (rejected .frame s)) ∧
    (s.cfg.configured = true → s.frame = .idle →
      (acked 4 s → exec (.sendCommand c) s = .next { sent es s with
        cur.valid := false, txn.count := 0, status := .ok }) ∧
      ∀ n < 4, failsAt n s → exec (.sendCommand c) s = .next (cutShort es n s))

/-- R150: the three commands, each in its own frame, and then the shadow cursor. -/
def Obligations.SetPositionProgramsTheCursor : Prop :=
  ∀ (r : BitVec 4) (c : BitVec 8) (s : State),
    let b : BusEvent := .beginEv (addrByte s.cfg.addr)
    let es : List BusEvent :=
      [b, .byteEv 0x00, .byteEv (s.config.cmdEnc.setPage ||| BitVec.ofNat 8 r.toNat), .endEv,
       b, .byteEv 0x00, .byteEv (s.config.cmdEnc.setColLo ||| BitVec.ofNat 8 (c.toNat % 16)), .endEv,
       b, .byteEv 0x00, .byteEv (s.config.cmdEnc.setColHi ||| BitVec.ofNat 8 (c.toNat / 16)), .endEv]
    encode (.setPosition r c) = 0xA000#16 ||| (r.setWidth 16 <<< 8) ||| c.setWidth 16 ∧
    (s.cfg.configured = false → exec (.setPosition r c) s = .next (rejected .config s)) ∧
    (s.cfg.configured = true → s.initDone = false → exec (.setPosition r c) s = .next (rejected .notInit s)) ∧
    (s.cfg.configured = true → s.initDone = true → s.frame ≠ .idle →
      exec (.setPosition r c) s = .next (rejected .frame s)) ∧
    (s.cfg.configured = true → s.initDone = true → s.frame = .idle → r.toNat > 7 ∨ c.toNat > 127 →
      exec (.setPosition r c) s = .next (rejected .range s)) ∧
    (s.cfg.configured = true → s.initDone = true → s.frame = .idle → r.toNat ≤ 7 → c.toNat ≤ 127 →
      (acked 12 s → exec (.setPosition r c) s = .next { sent es s with
        cur := { valid := true, page := BitVec.ofNat 3 r.toNat, col := c }, txn.count := 0, status := .ok }) ∧
      ∀ n < 12, failsAt n s → exec (.setPosition r c) s = .next (cutShort es n s))

/-- R173. -/
def Obligations.SetContrastSendsTheLevel : Prop :=
  ∀ (l : Byte) (s : State),
    let es : List BusEvent :=
      [.beginEv (addrByte s.cfg.addr), .byteEv 0x00, .byteEv s.config.cmdEnc.contrast, .byteEv 0x00, .byteEv l, .endEv]
    encode (.setContrast l) = 0xB000#16 ||| l.setWidth 16 ∧
    (s.cfg.configured = false → exec (.setContrast l) s = .next (rejected .config s)) ∧
    (s.cfg.configured = true → s.initDone = false → exec (.setContrast l) s = .next (rejected .notInit s)) ∧
    (s.cfg.configured = true → s.initDone = true → s.frame ≠ .idle →
      exec (.setContrast l) s = .next (rejected .frame s)) ∧
    (s.cfg.configured = true → s.initDone = true → s.frame = .idle →
      (acked 6 s → exec (.setContrast l) s = .next { sent es s with
        cur.valid := false, txn.count := 0, status := .ok }) ∧
      ∀ n < 6, failsAt n s → exec (.setContrast l) s = .next (cutShort es n s))

/-- R174. -/
def Obligations.InvertScreenSendsOneCommand : Prop :=
  ∀ (f : Bool) (s : State),
    let es : List BusEvent :=
      [.beginEv (addrByte s.cfg.addr), .byteEv 0x00,
       .byteEv (if f = true then s.config.cmdEnc.invertOn else s.config.cmdEnc.invertOff), .endEv]
    encode (.invertScreen f) = (if f = true then 0xC001#16 else 0xC000#16) ∧
    (s.cfg.configured = false → exec (.invertScreen f) s = .next (rejected .config s)) ∧
    (s.cfg.configured = true → s.initDone = false → exec (.invertScreen f) s = .next (rejected .notInit s)) ∧
    (s.cfg.configured = true → s.initDone = true → s.frame ≠ .idle →
      exec (.invertScreen f) s = .next (rejected .frame s)) ∧
    (s.cfg.configured = true → s.initDone = true → s.frame = .idle →
      (acked 4 s → exec (.invertScreen f) s = .next { sent es s with
        cur.valid := false, txn.count := 0, status := .ok }) ∧
      ∀ n < 4, failsAt n s → exec (.invertScreen f) s = .next (cutShort es n s))

/-- R175. -/
def Obligations.SleepSendsDisplayOffOrOn : Prop :=
  ∀ (f : Bool) (s : State),
    let es : List BusEvent :=
      [.beginEv (addrByte s.cfg.addr), .byteEv 0x00,
       .byteEv (if f = true then s.config.cmdEnc.displayOff else s.config.cmdEnc.displayOn), .endEv]
    encode (.sleep f) = (if f = true then 0xD001#16 else 0xD000#16) ∧
    (s.cfg.configured = false → exec (.sleep f) s = .next (rejected .config s)) ∧
    (s.cfg.configured = true → s.initDone = false → exec (.sleep f) s = .next (rejected .notInit s)) ∧
    (s.cfg.configured = true → s.initDone = true → s.frame ≠ .idle →
      exec (.sleep f) s = .next (rejected .frame s)) ∧
    (s.cfg.configured = true → s.initDone = true → s.frame = .idle →
      (acked 4 s → exec (.sleep f) s = .next { sent es s with
        cur.valid := false, txn.count := 0, status := .ok }) ∧
      ∀ n < 4, failsAt n s → exec (.sleep f) s = .next (cutShort es n s))

/-! ## Status and errors (R200 to R202) -/

/-- R202, R201: of the causes that apply, the one earliest in the order is reported, and the operation changes STATUS and
ERRLOG alone. The codes 3 to 8 stand in that order; CLIPPED comes before ERR_FULL. -/
def Obligations.FirstApplicableCauseIsReported : Prop :=
  ∀ (i : Instr) (s : State) (e : ErrorCode), causeApplies i s e = true →
    (∀ e', causeApplies i s e' = true → (errorCode e).toNat ≤ (errorCode e').toNat) →
    (e = .full → ¬ clips i s) →
    exec i s = .next (rejected e s)

/-- R200, R202: with no cause and every acknowledge ok (12 events are the most of SET_POSITION, those of INIT_SEQ the most
of INITIALIZE) an operation ends with OK, or CLIPPED at the right edge. -/
def Obligations.NoCauseMeansSuccess : Prop :=
  ∀ (i : Instr) (s : State), RegInv s → (∀ e, causeApplies i s e = true → e = .full ∧ clips i s) →
    acked (12 + (groupsEvents (addrByte s.cfg.addr) s.config.initSeq).length) s →
    ∃ t, exec i s = .next t ∧ t.status = (if s.frame = .data ∧ clips i s then .clipped else .ok) ∧ t.errlog = s.errlog

/-- R28, R29, R201: a word that ends with error code k sets bit k of ERRLOG and no other bit; with OK or CLIPPED ERRLOG
stays. So no bit is ever cleared, except by reset. -/
def Obligations.ErrlogRecordsExactlyTheStatus : Prop :=
  ∀ s t : State, s.resetReq = none → step s = .next t →
    (t.status = .ok ∨ t.status = .clipped → t.errlog = s.errlog) ∧
    ∀ e, t.status = .error e → t.errlog = s.errlog ||| (1#16 <<< (errorCode e).toNat)

/-- R29: bits 0, 1 and 10 to 15 of ERRLOG are never set. -/
def Obligations.StepKeepsErrlogReservedBitsZero : Prop :=
  ∀ s t : State, ErrlogInv s → step s = .next t → ErrlogInv t

/-- R112, R235: after ERR_TRANSPORT the bus is released, no frame is open and the cursor is unknown. -/
def Obligations.TransportErrorReleasesTheBus : Prop :=
  ∀ (i : Instr) (s t : State), exec i s = .next t → t.status = .error .transport →
    t.frame = .idle ∧ t.txn.count = 0 ∧ t.cur.valid = false ∧ t.log.getLast? = some .endEv

/-- R233: before CONFIG, every other operation ends with ERR_CONFIG or, for frame misuse, ERR_FRAME. -/
def Obligations.NothingRunsBeforeConfig : Prop :=
  ∀ (i : Instr) (s : State), RegInv s → s.cfg.configured = false → (∀ a, i ≠ .config a) →
    exec i s = .next (rejected (if needsConfig i = true then .config else .frame) s)

/-! ## Frames: what an operation leaves unchanged -/

/-- R119, R173 to R176, R57: a passthrough or a raw command changes CUR.valid, STATUS, ERRLOG, LOG and the draw count, and
nothing else; TXN.count is 0 whenever no frame is open. -/
def Obligations.PassthroughsChangeNothingElse : Prop :=
  ∀ (i : Instr) (s t : State),
    (∃ c, i = .sendCommand c) ∨ (∃ l, i = .setContrast l) ∨ (∃ f, i = .invertScreen f) ∨ (∃ f, i = .sleep f) →
    exec i s = .next t →
    t.cfg = s.cfg ∧ t.initDone = s.initDone ∧ t.frame = s.frame ∧ t.txn.col0 = s.txn.col0 ∧
    ((s.frame = .idle → s.txn.count = 0) → t.txn.count = s.txn.count) ∧
    t.cur.page = s.cur.page ∧ t.cur.col = s.cur.col ∧ SameDisplay s t ∧ SameHost s t

/-- R113 to R115, R57: the command frame primitives leave CFG, INIT, TXN.col0, the cursor's place, DISP and the host's side. -/
def Obligations.CommandFramePrimitivesChangeNothingElse : Prop :=
  ∀ (i : Instr) (s t : State), i = .beginCmd ∨ (∃ c, i = .cmdByte c) ∨ i = .endCmd → exec i s = .next t →
    t.cfg = s.cfg ∧ t.initDone = s.initDone ∧ t.txn.col0 = s.txn.col0 ∧
    t.cur.page = s.cur.page ∧ t.cur.col = s.cur.col ∧ SameDisplay s t ∧ SameHost s t

/-- R150: SET_POSITION writes CUR, STATUS, ERRLOG and LOG; FRAME and TXN are back where they were. -/
def Obligations.SetPositionChangesNothingElse : Prop :=
  ∀ (r : BitVec 4) (c : BitVec 8) (s t : State), exec (.setPosition r c) s = .next t →
    t.cfg = s.cfg ∧ t.initDone = s.initDone ∧ t.frame = s.frame ∧ t.txn.col0 = s.txn.col0 ∧
    ((s.frame = .idle → s.txn.count = 0) → t.txn.count = s.txn.count) ∧
    (t.status ≠ .ok → t.cur.page = s.cur.page ∧ t.cur.col = s.cur.col) ∧ SameDisplay s t ∧ SameHost s t

/-- R170, R171: CONFIG writes CFG, STATUS and ERRLOG alone; INITIALIZE writes INIT.done, CUR.valid, STATUS, ERRLOG and LOG. -/
def Obligations.LifecycleOperationsChangeNothingElse : Prop :=
  (∀ (a : Addr7) (s t : State), exec (.config a) s = .next t →
    t = { s with cfg := t.cfg, status := t.status, errlog := t.errlog }) ∧
  (∀ s t : State, exec .initialise s = .next t →
    t.cfg = s.cfg ∧ t.frame = s.frame ∧ t.txn.col0 = s.txn.col0 ∧
    ((s.frame = .idle → s.txn.count = 0) → t.txn.count = s.txn.count) ∧
    t.cur.page = s.cur.page ∧ t.cur.col = s.cur.col ∧ SameDisplay s t ∧ SameHost s t)

/-- R117, R112, R201: DATA_BYTE leaves CFG, INIT, the page and TXN.col0. Ending OK, every cell but the one at the cursor reads
as before; ending ERR_TRANSPORT, every cell outside the transaction's; ending otherwise (CLIPPED, ERR_FRAME, ERR_FULL),
STATUS and ERRLOG alone may differ, so every cell reads as before. -/
def Obligations.DataByteChangesNothingElse : Prop :=
  ∀ (v : Byte) (s t : State), exec (.dataByte v) s = .next t →
    t.cfg = s.cfg ∧ t.initDone = s.initDone ∧ t.cur.page = s.cur.page ∧ t.txn.col0 = s.txn.col0 ∧ SameHost s t ∧
    (t.status = .ok → ∀ a, a ≠ cellAddr s.cur.page s.cur.col → t.disp.read a = s.disp.read a) ∧
    (t.status = .error .transport → ∀ a, a < cellAddr s.cur.page s.txn.col0 ∨ cellAddr s.cur.page s.cur.col < a →
      t.disp.read a = s.disp.read a) ∧
    (t.status ≠ .ok → t.status ≠ .error .transport →
      t = { s with status := t.status, errlog := t.errlog } ∧ SameDisplay s t)

/-- R116, R118, R112: BEGIN_DATA and END_DATA leave CFG, INIT, the cursor's place and the host's side; BEGIN_DATA changes no
cell, END_DATA only with its End unacknowledged, and then only cells of the transaction. -/
def Obligations.DataFrameBracketsChangeNothingElse : Prop :=
  (∀ s t : State, exec .beginData s = .next t →
    t.cfg = s.cfg ∧ t.initDone = s.initDone ∧ t.cur.page = s.cur.page ∧ t.cur.col = s.cur.col ∧
    SameDisplay s t ∧ SameHost s t) ∧
  (∀ s t : State, exec .endData s = .next t →
    t.cfg = s.cfg ∧ t.initDone = s.initDone ∧ t.cur.page = s.cur.page ∧ t.cur.col = s.cur.col ∧
    t.txn.col0 = s.txn.col0 ∧ SameHost s t ∧
    (t.status ≠ .error .transport → SameDisplay s t) ∧
    (∀ a, a < cellAddr s.cur.page s.txn.col0 ∨ cellAddr s.cur.page s.cur.col ≤ a → t.disp.read a = s.disp.read a))

/-! ## Rules of the whole machine -/

/-- R57, R53, R54: only DATA_BYTE and END_DATA ever change a display cell. -/
def Obligations.CommandBytesNeverChangeTheDisplay : Prop :=
  ∀ (i : Instr) (s t : State), touchesDisplay i = false → exec i s = .next t → t.disp = s.disp

/-- R23: once configured, no operation changes the bus address. -/
def Obligations.AddressNeverChangesOnceConfigured : Prop :=
  ∀ s t : State, s.resetReq = none → s.cfg.configured = true → step s = .next t → t.cfg = s.cfg

/-- R24: no operation but INITIALIZE writes INIT.done, and INITIALIZE leaves 1 exactly when, past its checks, it ends OK. -/
def Obligations.OnlyInitializeWritesInitDone : Prop :=
  ∀ (i : Instr) (s t : State), exec i s = .next t →
    (i ≠ .initialise → t.initDone = s.initDone) ∧
    (i = .initialise → t.status = .ok → t.initDone = true) ∧
    (i = .initialise → t.status = .error .transport → t.initDone = false)

/-- R27: the cursor becomes known only by a SET_POSITION that ends OK, which leaves it at that place; a command frame,
INITIALIZE or END_DATA that ends OK leaves it unknown. -/
def Obligations.CursorIsKnownOnlyWhenJustSet : Prop :=
  ∀ (i : Instr) (s t : State), exec i s = .next t →
    (s.cur.valid = false → t.cur.valid = true →
      t.status = .ok ∧ ∃ r c, i = .setPosition r c ∧ t.cur.page.toNat = r.toNat ∧ t.cur.col = c) ∧
    (t.status = .ok → (needsFrame i = some .idle ∧ i ≠ .beginData ∧ ∀ r c, i ≠ .setPosition r c) ∨ i = .endData →
      t.cur.valid = false)

/-- R120: a composite operation returns with no frame open, and in an open frame it sends nothing. -/
def Obligations.CompositeOperationsLeaveNoFrameOpen : Prop :=
  ∀ (i : Instr) (s t : State), isComposite i = true → exec i s = .next t →
    (s.frame = .idle → t.frame = .idle) ∧
    (s.frame ≠ .idle → t = { s with status := t.status, errlog := t.errlog } ∧
      (s.cfg.configured = true → (needsInit i = true → s.initDone = true) → t.status = .error .frame))

/-- R110, R111, R81, R51: a word only appends to LOG, with one draw for each event, and every Begin it appends carries the
configured address in bits 7:1 and the write bit 0. -/
def Obligations.LogOnlyGrowsAndBeginsCarryTheAddress : Prop :=
  ∀ s t : State, s.resetReq = none → step s = .next t →
    ∃ es, t.log = s.log ++ es ∧ t.draws = s.draws + es.length ∧
      ∀ a, BusEvent.beginEv a ∈ es → s.cfg.configured = true ∧ a.toNat = 2 * s.cfg.addr.toNat

/-- R52, R55: no operation reads the display memory. Whatever cells `d` stand in it, everything but the cells comes out the
same, and each cell either keeps what it held, in both runs, or holds the same afterwards in both. -/
def Obligations.DisplayNeverInfluencesTheBlock : Prop :=
  ∀ (i : Instr) (s t : State) (d : Memory), exec i s = .next t →
    ∃ m, exec i { s with disp := d } = .next { t with disp := m } ∧
      ∀ a, (t.disp.read a = s.disp.read a ∧ m.read a = d.read a) ∨ m.read a = t.disp.read a

/-! ## Display memory -/

/-- R53, R62: a write makes its cell Known and leaves every other cell; no cell lies above 1023. -/
def Obligations.CellReadsAsLastWritten : Prop :=
  ∀ (a : Nat) (v : Byte) (s : State),
    (a < 1024 → ∃ t, memWrite a v s = .ok t ∧ memRead a t = .ok v ∧
      (∀ b, b ≠ a → memRead b t = memRead b s) ∧ t = { s with disp := t.disp }) ∧
    (1024 ≤ a → memWrite a v s = .error .noSuchCell ∧ memRead a s = .error .noSuchCell)

/-- R55, R56: an observation of an Unknown cell faults; right after reset every cell does. -/
def Obligations.UnknownCellsCannotBeRead : Prop :=
  (∀ (a : Nat) (s : State), a < 1024 → s.disp.read a = none → memRead a s = .error .unknownCell) ∧
  (∀ a < 1024, memRead a State.reset = .error .unknownCell)

/-! ## Sequences of operations -/

/-- R153: SET_POSITION, BEGIN_DATA, DATA_BYTE v write exactly the cell at that row and column. -/
def Obligations.PositionedByteWritesExactlyOneCell : Prop :=
  ∀ (r : BitVec 4) (c : BitVec 8) (v : Byte) (s : State),
    r.toNat ≤ 7 → c.toNat ≤ 127 → s.config.wf = true → s.cfg.configured = true → s.initDone = true → s.frame = .idle →
    acked 15 s →
    ∃ t u w, exec (.setPosition r c) s = .next t ∧ exec .beginData t = .next u ∧ exec (.dataByte v) u = .next w ∧
      w.status = .ok ∧ ∀ a, w.disp.read a = if a = r.toNat * 128 + c.toNat then some v else s.disp.read a

/-- R98: CMDS c and SEND_COMMAND c emit the same events and end in the same state, with OK. -/
def Obligations.CmdsOfOneByteEqualsSendCommand : Prop :=
  ∀ (c : Byte) (s : State), s.config.wf = true → s.cfg.configured = true → s.frame = .idle → acked 4 s →
    ∃ t u w, exec .beginCmd s = .next t ∧ exec (.cmdByte c) t = .next u ∧ exec .endCmd u = .next w ∧
      exec (.sendCommand c) s = .next w ∧ w.status = .ok

/-- R99, R82, R83: a log of terminated transactions is read back as those transactions, and a payload says its kind. -/
def Obligations.LogIsReadBackIntoFrames : Prop :=
  (∀ ts : List Transaction, splitLog none (ts.flatMap Transaction.events) = some ts) ∧
  (∀ cs : List Byte, cs ≠ [] → frameOf (commandPayload cs) = .command cs) ∧
  (∀ ds : List Byte, frameOf (dataPayload ds) = .data ds) ∧
  (∀ cs : List Byte, frameOf (commandPayload cs ++ [0x00]) = .aborted (commandPayload cs ++ [0x00]))

/-! ## Invariants of every step -/

/-- The invariants hold right after reset (R32, R33, R51, R52). -/
def Obligations.ResetMeetsTheInvariants : Prop :=
  RegInv State.reset ∧ LogInv State.reset ∧ State.reset.disp.wf ∧ ErrlogInv State.reset

/-- R32: every step keeps the register invariants. -/
def Obligations.StepKeepsTheRegisterInvariants : Prop :=
  ∀ s t : State, RegInv s → step s = .next t → RegInv t

/-- R51, R80 to R83: every step keeps LOG well-bracketed, its payloads in the two forms, and its open transaction as FRAME
says, unless a block reset falls into an open frame, which R231 leaves out. -/
def Obligations.StepKeepsTheLogWellFormed : Prop :=
  ∀ s t : State, LogInv s → (s.resetReq = some .block → s.frame = .idle) → step s = .next t → LogInv t

/-- R52: every step keeps the display memory in its canonical form. -/
def Obligations.StepKeepsTheDisplayCanonical : Prop :=
  ∀ s t : State, s.disp.wf → step s = .next t → t.disp.wf

/-! ## The assembler's words -/

/-- R97: the word of each statement of the table, for every operand that fits its field; one that does not is refused. -/
def Obligations.AssemblerGivesTheWordsOfTheSpec : Prop :=
  (∀ n, assemble (.config n) = if n < 128 then some [0x1000#16 ||| BitVec.ofNat 16 n] else none) ∧
  assemble .initialise = some [0x2000#16] ∧
  assemble .beginCmd = some [0x3000#16] ∧
  (∀ n, assemble (.cmdByte n) = if n < 256 then some [0x4000#16 ||| BitVec.ofNat 16 n] else none) ∧
  assemble .endCmd = some [0x5000#16] ∧
  assemble .beginData = some [0x6000#16] ∧
  (∀ n, assemble (.dataByte n) = if n < 256 then some [0x7000#16 ||| BitVec.ofNat 16 n] else none) ∧
  assemble .endData = some [0x8000#16] ∧
  (∀ n, assemble (.sendCommand n) = if n < 256 then some [0x9000#16 ||| BitVec.ofNat 16 n] else none) ∧
  (∀ r c, assemble (.setPosition r c) =
    if r < 16 ∧ c < 256 then some [0xA000#16 ||| (BitVec.ofNat 16 r <<< 8) ||| BitVec.ofNat 16 c] else none) ∧
  (∀ n, assemble (.setContrast n) = if n < 256 then some [0xB000#16 ||| BitVec.ofNat 16 n] else none) ∧
  (∀ n, assemble (.invertScreen n) = if n < 2 then some [0xC000#16 ||| BitVec.ofNat 16 n] else none) ∧
  (∀ n, assemble (.sleep n) = if n < 2 then some [0xD000#16 ||| BitVec.ofNat 16 n] else none)

/-- R98: the words a pseudo-instruction expands to, for every list of operands that fit; it is refused if one does not. That
an empty list is refused is the model's choice (log entry 19). -/
def Obligations.AssemblerExpandsThePseudoInstructions : Prop :=
  (∀ ds, assemble (.data ds) =
    if ds ≠ [] ∧ ∀ d ∈ ds, d < 256 then some (ds.map fun d => 0x7000#16 ||| BitVec.ofNat 16 d) else none) ∧
  (∀ cs, assemble (.cmds cs) =
    if cs ≠ [] ∧ ∀ c ∈ cs, c < 256 then
      some ([0x3000#16] ++ (cs.map fun c => 0x4000#16 ||| BitVec.ofNat 16 c) ++ [0x5000#16])
    else none) ∧
  (∀ r c ds, assemble (.writeAt r c ds) =
    if r < 16 ∧ c < 256 ∧ ds ≠ [] ∧ ∀ d ∈ ds, d < 256 then
      some ([0xA000#16 ||| (BitVec.ofNat 16 r <<< 8) ||| BitVec.ofNat 16 c, 0x6000#16] ++
        (ds.map fun d => 0x7000#16 ||| BitVec.ofNat 16 d) ++ [0x8000#16])
    else none)
end

