-- ==== Sys2Proof/Laws/State.lean ====
section
/-! SUPPORT. One lemma per field per named update: what the update leaves in the field, true by rfl. And `answer`, which
no update changes. -/

namespace Sys2Proof.Machine

variable (s : State)

/-! ### raise -/

@[simp] theorem raise_cfg (e : ErrorCode) : (raise e s).cfg = s.cfg := rfl
@[simp] theorem raise_initDone (e : ErrorCode) : (raise e s).initDone = s.initDone := rfl
@[simp] theorem raise_frame (e : ErrorCode) : (raise e s).frame = s.frame := rfl
@[simp] theorem raise_txn (e : ErrorCode) : (raise e s).txn = s.txn := rfl
@[simp] theorem raise_cur (e : ErrorCode) : (raise e s).cur = s.cur := rfl
@[simp] theorem raise_status (e : ErrorCode) : (raise e s).status = .error e := rfl
@[simp] theorem raise_errlog (e : ErrorCode) : (raise e s).errlog = recordError s.errlog e := rfl
@[simp] theorem raise_log (e : ErrorCode) : (raise e s).log = s.log := rfl
@[simp] theorem raise_disp (e : ErrorCode) : (raise e s).disp = s.disp := rfl
@[simp] theorem raise_pc (e : ErrorCode) : (raise e s).pc = s.pc := rfl
@[simp] theorem raise_program (e : ErrorCode) : (raise e s).program = s.program := rfl
@[simp] theorem raise_config (e : ErrorCode) : (raise e s).config = s.config := rfl
@[simp] theorem raise_acks (e : ErrorCode) : (raise e s).acks = s.acks := rfl
@[simp] theorem raise_draws (e : ErrorCode) : (raise e s).draws = s.draws := rfl
@[simp] theorem raise_resetReq (e : ErrorCode) : (raise e s).resetReq = s.resetReq := rfl
@[simp] theorem raise_answer (e : ErrorCode) (k : Nat) : (raise e s).answer k = s.answer k := rfl

/-! ### finish -/

@[simp] theorem finish_cfg (st : Status) : (finish st s).cfg = s.cfg := rfl
@[simp] theorem finish_initDone (st : Status) : (finish st s).initDone = s.initDone := rfl
@[simp] theorem finish_frame (st : Status) : (finish st s).frame = s.frame := rfl
@[simp] theorem finish_txn (st : Status) : (finish st s).txn = s.txn := rfl
@[simp] theorem finish_cur (st : Status) : (finish st s).cur = s.cur := rfl
@[simp] theorem finish_status (st : Status) : (finish st s).status = st := rfl
@[simp] theorem finish_errlog (st : Status) : (finish st s).errlog = s.errlog := rfl
@[simp] theorem finish_log (st : Status) : (finish st s).log = s.log := rfl
@[simp] theorem finish_disp (st : Status) : (finish st s).disp = s.disp := rfl
@[simp] theorem finish_pc (st : Status) : (finish st s).pc = s.pc := rfl
@[simp] theorem finish_program (st : Status) : (finish st s).program = s.program := rfl
@[simp] theorem finish_config (st : Status) : (finish st s).config = s.config := rfl
@[simp] theorem finish_acks (st : Status) : (finish st s).acks = s.acks := rfl
@[simp] theorem finish_draws (st : Status) : (finish st s).draws = s.draws := rfl
@[simp] theorem finish_resetReq (st : Status) : (finish st s).resetReq = s.resetReq := rfl
@[simp] theorem finish_answer (st : Status) (k : Nat) : (finish st s).answer k = s.answer k := rfl

/-! ### clearCursor -/

@[simp] theorem clearCursor_cfg : (clearCursor s).cfg = s.cfg := rfl
@[simp] theorem clearCursor_initDone : (clearCursor s).initDone = s.initDone := rfl
@[simp] theorem clearCursor_frame : (clearCursor s).frame = s.frame := rfl
@[simp] theorem clearCursor_txn : (clearCursor s).txn = s.txn := rfl
@[simp] theorem clearCursor_cur : (clearCursor s).cur = { s.cur with valid := false } := rfl
@[simp] theorem clearCursor_status : (clearCursor s).status = s.status := rfl
@[simp] theorem clearCursor_errlog : (clearCursor s).errlog = s.errlog := rfl
@[simp] theorem clearCursor_log : (clearCursor s).log = s.log := rfl
@[simp] theorem clearCursor_disp : (clearCursor s).disp = s.disp := rfl
@[simp] theorem clearCursor_pc : (clearCursor s).pc = s.pc := rfl
@[simp] theorem clearCursor_program : (clearCursor s).program = s.program := rfl
@[simp] theorem clearCursor_config : (clearCursor s).config = s.config := rfl
@[simp] theorem clearCursor_acks : (clearCursor s).acks = s.acks := rfl
@[simp] theorem clearCursor_draws : (clearCursor s).draws = s.draws := rfl
@[simp] theorem clearCursor_resetReq : (clearCursor s).resetReq = s.resetReq := rfl
@[simp] theorem clearCursor_answer (k : Nat) : (clearCursor s).answer k = s.answer k := rfl

/-! ### setCursor -/

@[simp] theorem setCursor_cfg (p : BitVec 3) (c : BitVec 8) : (setCursor p c s).cfg = s.cfg := rfl
@[simp] theorem setCursor_initDone (p : BitVec 3) (c : BitVec 8) : (setCursor p c s).initDone = s.initDone := rfl
@[simp] theorem setCursor_frame (p : BitVec 3) (c : BitVec 8) : (setCursor p c s).frame = s.frame := rfl
@[simp] theorem setCursor_txn (p : BitVec 3) (c : BitVec 8) : (setCursor p c s).txn = s.txn := rfl
@[simp] theorem setCursor_cur (p : BitVec 3) (c : BitVec 8) : (setCursor p c s).cur = { valid := true, page := p, col := c } := rfl
@[simp] theorem setCursor_status (p : BitVec 3) (c : BitVec 8) : (setCursor p c s).status = s.status := rfl
@[simp] theorem setCursor_errlog (p : BitVec 3) (c : BitVec 8) : (setCursor p c s).errlog = s.errlog := rfl
@[simp] theorem setCursor_log (p : BitVec 3) (c : BitVec 8) : (setCursor p c s).log = s.log := rfl
@[simp] theorem setCursor_disp (p : BitVec 3) (c : BitVec 8) : (setCursor p c s).disp = s.disp := rfl
@[simp] theorem setCursor_pc (p : BitVec 3) (c : BitVec 8) : (setCursor p c s).pc = s.pc := rfl
@[simp] theorem setCursor_program (p : BitVec 3) (c : BitVec 8) : (setCursor p c s).program = s.program := rfl
@[simp] theorem setCursor_config (p : BitVec 3) (c : BitVec 8) : (setCursor p c s).config = s.config := rfl
@[simp] theorem setCursor_acks (p : BitVec 3) (c : BitVec 8) : (setCursor p c s).acks = s.acks := rfl
@[simp] theorem setCursor_draws (p : BitVec 3) (c : BitVec 8) : (setCursor p c s).draws = s.draws := rfl
@[simp] theorem setCursor_resetReq (p : BitVec 3) (c : BitVec 8) : (setCursor p c s).resetReq = s.resetReq := rfl
@[simp] theorem setCursor_answer (p : BitVec 3) (c : BitVec 8) (k : Nat) : (setCursor p c s).answer k = s.answer k := rfl

/-! ### advanceCursor -/

@[simp] theorem advanceCursor_cfg : (advanceCursor s).cfg = s.cfg := rfl
@[simp] theorem advanceCursor_initDone : (advanceCursor s).initDone = s.initDone := rfl
@[simp] theorem advanceCursor_frame : (advanceCursor s).frame = s.frame := rfl
@[simp] theorem advanceCursor_txn : (advanceCursor s).txn = { s.txn with count := s.txn.count + 1 } := rfl
@[simp] theorem advanceCursor_cur : (advanceCursor s).cur = { s.cur with col := s.cur.col + 1 } := rfl
@[simp] theorem advanceCursor_status : (advanceCursor s).status = s.status := rfl
@[simp] theorem advanceCursor_errlog : (advanceCursor s).errlog = s.errlog := rfl
@[simp] theorem advanceCursor_log : (advanceCursor s).log = s.log := rfl
@[simp] theorem advanceCursor_disp : (advanceCursor s).disp = s.disp := rfl
@[simp] theorem advanceCursor_pc : (advanceCursor s).pc = s.pc := rfl
@[simp] theorem advanceCursor_program : (advanceCursor s).program = s.program := rfl
@[simp] theorem advanceCursor_config : (advanceCursor s).config = s.config := rfl
@[simp] theorem advanceCursor_acks : (advanceCursor s).acks = s.acks := rfl
@[simp] theorem advanceCursor_draws : (advanceCursor s).draws = s.draws := rfl
@[simp] theorem advanceCursor_resetReq : (advanceCursor s).resetReq = s.resetReq := rfl
@[simp] theorem advanceCursor_answer (k : Nat) : (advanceCursor s).answer k = s.answer k := rfl

/-! ### openFrame -/

@[simp] theorem openFrame_cfg (f : FrameState) (n : Nat) : (openFrame f n s).cfg = s.cfg := rfl
@[simp] theorem openFrame_initDone (f : FrameState) (n : Nat) : (openFrame f n s).initDone = s.initDone := rfl
@[simp] theorem openFrame_frame (f : FrameState) (n : Nat) : (openFrame f n s).frame = f := rfl
@[simp] theorem openFrame_txn (f : FrameState) (n : Nat) : (openFrame f n s).txn = { s.txn with count := n } := rfl
@[simp] theorem openFrame_cur (f : FrameState) (n : Nat) : (openFrame f n s).cur = s.cur := rfl
@[simp] theorem openFrame_status (f : FrameState) (n : Nat) : (openFrame f n s).status = s.status := rfl
@[simp] theorem openFrame_errlog (f : FrameState) (n : Nat) : (openFrame f n s).errlog = s.errlog := rfl
@[simp] theorem openFrame_log (f : FrameState) (n : Nat) : (openFrame f n s).log = s.log := rfl
@[simp] theorem openFrame_disp (f : FrameState) (n : Nat) : (openFrame f n s).disp = s.disp := rfl
@[simp] theorem openFrame_pc (f : FrameState) (n : Nat) : (openFrame f n s).pc = s.pc := rfl
@[simp] theorem openFrame_program (f : FrameState) (n : Nat) : (openFrame f n s).program = s.program := rfl
@[simp] theorem openFrame_config (f : FrameState) (n : Nat) : (openFrame f n s).config = s.config := rfl
@[simp] theorem openFrame_acks (f : FrameState) (n : Nat) : (openFrame f n s).acks = s.acks := rfl
@[simp] theorem openFrame_draws (f : FrameState) (n : Nat) : (openFrame f n s).draws = s.draws := rfl
@[simp] theorem openFrame_resetReq (f : FrameState) (n : Nat) : (openFrame f n s).resetReq = s.resetReq := rfl
@[simp] theorem openFrame_answer (f : FrameState) (n : Nat) (k : Nat) : (openFrame f n s).answer k = s.answer k := rfl

/-! ### markColumn -/

@[simp] theorem markColumn_cfg : (markColumn s).cfg = s.cfg := rfl
@[simp] theorem markColumn_initDone : (markColumn s).initDone = s.initDone := rfl
@[simp] theorem markColumn_frame : (markColumn s).frame = s.frame := rfl
@[simp] theorem markColumn_txn : (markColumn s).txn = { s.txn with col0 := s.cur.col } := rfl
@[simp] theorem markColumn_cur : (markColumn s).cur = s.cur := rfl
@[simp] theorem markColumn_status : (markColumn s).status = s.status := rfl
@[simp] theorem markColumn_errlog : (markColumn s).errlog = s.errlog := rfl
@[simp] theorem markColumn_log : (markColumn s).log = s.log := rfl
@[simp] theorem markColumn_disp : (markColumn s).disp = s.disp := rfl
@[simp] theorem markColumn_pc : (markColumn s).pc = s.pc := rfl
@[simp] theorem markColumn_program : (markColumn s).program = s.program := rfl
@[simp] theorem markColumn_config : (markColumn s).config = s.config := rfl
@[simp] theorem markColumn_acks : (markColumn s).acks = s.acks := rfl
@[simp] theorem markColumn_draws : (markColumn s).draws = s.draws := rfl
@[simp] theorem markColumn_resetReq : (markColumn s).resetReq = s.resetReq := rfl
@[simp] theorem markColumn_answer (k : Nat) : (markColumn s).answer k = s.answer k := rfl

/-! ### closeFrame -/

@[simp] theorem closeFrame_cfg : (closeFrame s).cfg = s.cfg := rfl
@[simp] theorem closeFrame_initDone : (closeFrame s).initDone = s.initDone := rfl
@[simp] theorem closeFrame_frame : (closeFrame s).frame = .idle := rfl
@[simp] theorem closeFrame_txn : (closeFrame s).txn = { s.txn with count := 0 } := rfl
@[simp] theorem closeFrame_cur : (closeFrame s).cur = s.cur := rfl
@[simp] theorem closeFrame_status : (closeFrame s).status = s.status := rfl
@[simp] theorem closeFrame_errlog : (closeFrame s).errlog = s.errlog := rfl
@[simp] theorem closeFrame_log : (closeFrame s).log = s.log := rfl
@[simp] theorem closeFrame_disp : (closeFrame s).disp = s.disp := rfl
@[simp] theorem closeFrame_pc : (closeFrame s).pc = s.pc := rfl
@[simp] theorem closeFrame_program : (closeFrame s).program = s.program := rfl
@[simp] theorem closeFrame_config : (closeFrame s).config = s.config := rfl
@[simp] theorem closeFrame_acks : (closeFrame s).acks = s.acks := rfl
@[simp] theorem closeFrame_draws : (closeFrame s).draws = s.draws := rfl
@[simp] theorem closeFrame_resetReq : (closeFrame s).resetReq = s.resetReq := rfl
@[simp] theorem closeFrame_answer (k : Nat) : (closeFrame s).answer k = s.answer k := rfl

/-! ### addCount -/

@[simp] theorem addCount_cfg (n : Nat) : (addCount n s).cfg = s.cfg := rfl
@[simp] theorem addCount_initDone (n : Nat) : (addCount n s).initDone = s.initDone := rfl
@[simp] theorem addCount_frame (n : Nat) : (addCount n s).frame = s.frame := rfl
@[simp] theorem addCount_txn (n : Nat) : (addCount n s).txn = { s.txn with count := s.txn.count + n } := rfl
@[simp] theorem addCount_cur (n : Nat) : (addCount n s).cur = s.cur := rfl
@[simp] theorem addCount_status (n : Nat) : (addCount n s).status = s.status := rfl
@[simp] theorem addCount_errlog (n : Nat) : (addCount n s).errlog = s.errlog := rfl
@[simp] theorem addCount_log (n : Nat) : (addCount n s).log = s.log := rfl
@[simp] theorem addCount_disp (n : Nat) : (addCount n s).disp = s.disp := rfl
@[simp] theorem addCount_pc (n : Nat) : (addCount n s).pc = s.pc := rfl
@[simp] theorem addCount_program (n : Nat) : (addCount n s).program = s.program := rfl
@[simp] theorem addCount_config (n : Nat) : (addCount n s).config = s.config := rfl
@[simp] theorem addCount_acks (n : Nat) : (addCount n s).acks = s.acks := rfl
@[simp] theorem addCount_draws (n : Nat) : (addCount n s).draws = s.draws := rfl
@[simp] theorem addCount_resetReq (n : Nat) : (addCount n s).resetReq = s.resetReq := rfl
@[simp] theorem addCount_answer (n : Nat) (k : Nat) : (addCount n s).answer k = s.answer k := rfl

/-! ### emit -/

@[simp] theorem emit_cfg (e : BusEvent) : (emit e s).cfg = s.cfg := rfl
@[simp] theorem emit_initDone (e : BusEvent) : (emit e s).initDone = s.initDone := rfl
@[simp] theorem emit_frame (e : BusEvent) : (emit e s).frame = s.frame := rfl
@[simp] theorem emit_txn (e : BusEvent) : (emit e s).txn = s.txn := rfl
@[simp] theorem emit_cur (e : BusEvent) : (emit e s).cur = s.cur := rfl
@[simp] theorem emit_status (e : BusEvent) : (emit e s).status = s.status := rfl
@[simp] theorem emit_errlog (e : BusEvent) : (emit e s).errlog = s.errlog := rfl
@[simp] theorem emit_log (e : BusEvent) : (emit e s).log = s.log ++ [e] := rfl
@[simp] theorem emit_disp (e : BusEvent) : (emit e s).disp = s.disp := rfl
@[simp] theorem emit_pc (e : BusEvent) : (emit e s).pc = s.pc := rfl
@[simp] theorem emit_program (e : BusEvent) : (emit e s).program = s.program := rfl
@[simp] theorem emit_config (e : BusEvent) : (emit e s).config = s.config := rfl
@[simp] theorem emit_acks (e : BusEvent) : (emit e s).acks = s.acks := rfl
@[simp] theorem emit_draws (e : BusEvent) : (emit e s).draws = s.draws + 1 := rfl
@[simp] theorem emit_resetReq (e : BusEvent) : (emit e s).resetReq = s.resetReq := rfl
@[simp] theorem emit_answer (e : BusEvent) (k : Nat) : (emit e s).answer k = s.answer k := rfl

/-! ### setInitDone -/

@[simp] theorem setInitDone_cfg (b : Bool) : (setInitDone b s).cfg = s.cfg := rfl
@[simp] theorem setInitDone_initDone (b : Bool) : (setInitDone b s).initDone = b := rfl
@[simp] theorem setInitDone_frame (b : Bool) : (setInitDone b s).frame = s.frame := rfl
@[simp] theorem setInitDone_txn (b : Bool) : (setInitDone b s).txn = s.txn := rfl
@[simp] theorem setInitDone_cur (b : Bool) : (setInitDone b s).cur = s.cur := rfl
@[simp] theorem setInitDone_status (b : Bool) : (setInitDone b s).status = s.status := rfl
@[simp] theorem setInitDone_errlog (b : Bool) : (setInitDone b s).errlog = s.errlog := rfl
@[simp] theorem setInitDone_log (b : Bool) : (setInitDone b s).log = s.log := rfl
@[simp] theorem setInitDone_disp (b : Bool) : (setInitDone b s).disp = s.disp := rfl
@[simp] theorem setInitDone_pc (b : Bool) : (setInitDone b s).pc = s.pc := rfl
@[simp] theorem setInitDone_program (b : Bool) : (setInitDone b s).program = s.program := rfl
@[simp] theorem setInitDone_config (b : Bool) : (setInitDone b s).config = s.config := rfl
@[simp] theorem setInitDone_acks (b : Bool) : (setInitDone b s).acks = s.acks := rfl
@[simp] theorem setInitDone_draws (b : Bool) : (setInitDone b s).draws = s.draws := rfl
@[simp] theorem setInitDone_resetReq (b : Bool) : (setInitDone b s).resetReq = s.resetReq := rfl
@[simp] theorem setInitDone_answer (b : Bool) (k : Nat) : (setInitDone b s).answer k = s.answer k := rfl

/-! ### advancePc -/

@[simp] theorem advancePc_cfg : (advancePc s).cfg = s.cfg := rfl
@[simp] theorem advancePc_initDone : (advancePc s).initDone = s.initDone := rfl
@[simp] theorem advancePc_frame : (advancePc s).frame = s.frame := rfl
@[simp] theorem advancePc_txn : (advancePc s).txn = s.txn := rfl
@[simp] theorem advancePc_cur : (advancePc s).cur = s.cur := rfl
@[simp] theorem advancePc_status : (advancePc s).status = s.status := rfl
@[simp] theorem advancePc_errlog : (advancePc s).errlog = s.errlog := rfl
@[simp] theorem advancePc_log : (advancePc s).log = s.log := rfl
@[simp] theorem advancePc_disp : (advancePc s).disp = s.disp := rfl
@[simp] theorem advancePc_pc : (advancePc s).pc = s.pc + 1 := rfl
@[simp] theorem advancePc_program : (advancePc s).program = s.program := rfl
@[simp] theorem advancePc_config : (advancePc s).config = s.config := rfl
@[simp] theorem advancePc_acks : (advancePc s).acks = s.acks := rfl
@[simp] theorem advancePc_draws : (advancePc s).draws = s.draws := rfl
@[simp] theorem advancePc_resetReq : (advancePc s).resetReq = s.resetReq := rfl
@[simp] theorem advancePc_answer (k : Nat) : (advancePc s).answer k = s.answer k := rfl

/-! ### resetRegisters -/

@[simp] theorem resetRegisters_cfg : (resetRegisters s).cfg = { addr := 0, configured := false } := rfl
@[simp] theorem resetRegisters_initDone : (resetRegisters s).initDone = false := rfl
@[simp] theorem resetRegisters_frame : (resetRegisters s).frame = .idle := rfl
@[simp] theorem resetRegisters_txn : (resetRegisters s).txn = { count := 0, col0 := 0 } := rfl
@[simp] theorem resetRegisters_cur : (resetRegisters s).cur = { valid := false, page := 0, col := 0 } := rfl
@[simp] theorem resetRegisters_status : (resetRegisters s).status = .ok := rfl
@[simp] theorem resetRegisters_errlog : (resetRegisters s).errlog = 0 := rfl
@[simp] theorem resetRegisters_log : (resetRegisters s).log = s.log := rfl
@[simp] theorem resetRegisters_disp : (resetRegisters s).disp = s.disp := rfl
@[simp] theorem resetRegisters_pc : (resetRegisters s).pc = s.pc := rfl
@[simp] theorem resetRegisters_program : (resetRegisters s).program = s.program := rfl
@[simp] theorem resetRegisters_config : (resetRegisters s).config = s.config := rfl
@[simp] theorem resetRegisters_acks : (resetRegisters s).acks = s.acks := rfl
@[simp] theorem resetRegisters_draws : (resetRegisters s).draws = s.draws := rfl
@[simp] theorem resetRegisters_resetReq : (resetRegisters s).resetReq = s.resetReq := rfl
@[simp] theorem resetRegisters_answer (k : Nat) : (resetRegisters s).answer k = s.answer k := rfl

end Sys2Proof.Machine
end

