-- ==== Sys2Proof/Laws/Bus.lean ====
section
/-! SUPPORT. What the transport operations do, said once: one event, a failure, and a sequence of events. `Sends a k es p`
says everything about a part `k` of an operation that sends the events `es` to address `a` outside a data frame. -/

namespace Sys2Proof.Machine

/-- The End that releases the bus, unless End itself failed (R112). -/
def releasing (e : BusEvent) : List BusEvent := if e = .endEv then [] else [.endEv]

theorem emit_eq_sent (e : BusEvent) (s : State) : emit e s = sent [e] s := rfl

theorem sent_nil (s : State) : sent [] s = s := by simp [sent]

theorem sent_sent (es fs : List BusEvent) (s : State) : sent fs (sent es s) = sent (es ++ fs) s := by
  simp [sent, Nat.add_assoc]

@[simp] theorem sent_answer (es : List BusEvent) (s : State) (k : Nat) : (sent es s).answer k = s.answer k := rfl
@[simp] theorem sent_draws (es : List BusEvent) (s : State) : (sent es s).draws = s.draws + es.length := rfl
@[simp] theorem sent_log (es : List BusEvent) (s : State) : (sent es s).log = s.log ++ es := rfl
@[simp] theorem sent_frame (es : List BusEvent) (s : State) : (sent es s).frame = s.frame := rfl
@[simp] theorem sent_cfg (es : List BusEvent) (s : State) : (sent es s).cfg = s.cfg := rfl

theorem endedWith_sent (es fs : List BusEvent) (s : State) : endedWith fs (sent es s) = endedWith (es ++ fs) s := by
  simp [endedWith, sent, Nat.add_assoc]

/-- TransportFail outside a data frame (R112). -/
theorem transportFail_eq (e : BusEvent) (s : State) (h : s.frame ≠ .data) :
    transportFail e s = endedWith (releasing e) s := by
  have hf : ∀ t : State, t.frame = s.frame → forgetTransaction t = t := by
    intro t ht
    unfold forgetTransaction
    split
    · rename_i hd; exact absurd (ht ▸ hd) h
    · rfl
  cases e with
  | endEv => simp [transportFail, releaseBus, hf s rfl, endedWith, releasing, raise, clearCursor, closeFrame, recordError,
      errorBit, errorCode]
  | beginEv a => simp [transportFail, releaseBus, hf, endedWith, releasing, raise, clearCursor, closeFrame, recordError,
      errorBit, errorCode, emit]
  | byteEv b => simp [transportFail, releaseBus, hf, endedWith, releasing, raise, clearCursor, closeFrame, recordError,
      errorBit, errorCode, emit]

/-- TransportFail in an open data frame also forgets the cells of the transaction (R112). -/
theorem transportFail_data (e : BusEvent) (s : State) (h : s.frame = .data) :
    transportFail e s = { endedWith (releasing e) s with
      disp := s.disp.forgetFrom (cellAddr s.cur.page s.txn.col0) (s.cur.col.toNat - s.txn.col0.toNat) } := by
  cases e <;>
    simp [transportFail, releaseBus, forgetTransaction, h, endedWith, releasing, raise, clearCursor, closeFrame,
      recordError, errorBit, errorCode, emit]

/-- One event goes on or ends the operation, as its draw says (R110, R112). -/
theorem tryEvent_ok (e : BusEvent) (s : State) (h : s.answer s.draws = .ok) : tryEvent e s = .going (sent [e] s) := by
  simp [tryEvent, h, emit_eq_sent]

theorem tryEvent_err (e : BusEvent) (s : State) (h : s.answer s.draws = .err) :
    tryEvent e s = .ended (transportFail e (sent [e] s)) := by
  simp [tryEvent, h, emit_eq_sent]

/-- Either the next `n` draws are all ok, or one of them is the first err. -/
theorem acked_or_fails (n : Nat) (s : State) : acked n s ∨ ∃ m < n, failsAt m s := by
  induction n with
  | zero => exact .inl fun k hk => absurd hk (Nat.not_lt_zero k)
  | succ n ih =>
    rcases ih with h | ⟨m, hm, hf⟩
    · cases hn : s.answer (s.draws + n) with
      | ok =>
        refine .inl fun k hk => ?_
        rcases Nat.lt_succ_iff_lt_or_eq.1 hk with hk | rfl
        · exact h k hk
        · exact hn
      | err => exact .inr ⟨n, Nat.lt_succ_self n, h, hn⟩
    · exact .inr ⟨m, Nat.lt_succ_of_lt hm, hf⟩

/-- A register write that no bus event sees: it commutes with sending, and a transport error undoes it. -/
structure Quiet (p : State → State) : Prop where
  answer : ∀ s k, (p s).answer k = s.answer k
  sent   : ∀ es s, p (sent es s) = sent es (p s)
  ended  : ∀ es s, endedWith es (p s) = endedWith es s
  addr   : ∀ s, (p s).cfg.addr = s.cfg.addr
  frame  : ∀ s, s.frame ≠ .data → (p s).frame ≠ .data

theorem Quiet.draws {p : State → State} (hp : Quiet p) (s : State) : (p s).draws = s.draws := by
  have := congrArg State.draws (hp.ended [] s)
  simpa [endedWith] using this

theorem quiet_id : Quiet id := ⟨fun _ _ => rfl, fun _ _ => rfl, fun _ _ => rfl, fun _ => rfl, fun _ h => h⟩
theorem quiet_addCount (n : Nat) : Quiet (addCount n) :=
  ⟨fun _ _ => rfl, fun _ _ => rfl, fun _ _ => rfl, fun _ => rfl, fun _ h => h⟩
theorem quiet_openCmd (n : Nat) : Quiet (openFrame .cmd n) :=
  ⟨fun _ _ => rfl, fun _ _ => rfl, fun _ _ => rfl, fun _ => rfl, fun _ _ h => by cases h⟩
theorem quiet_closeFrame : Quiet closeFrame :=
  ⟨fun _ _ => rfl, fun _ _ => rfl, fun _ _ => rfl, fun _ => rfl, fun _ _ h => by cases h⟩
theorem quiet_clearCursor : Quiet clearCursor :=
  ⟨fun _ _ => rfl, fun _ _ => rfl, fun _ _ => rfl, fun _ => rfl, fun _ h => h⟩

theorem Quiet.comp {p q : State → State} (hp : Quiet p) (hq : Quiet q) : Quiet (p ∘ q) where
  answer s k := by simp [hp.answer, hq.answer]
  sent es s := by simp [hp.sent, hq.sent]
  ended es s := by simp [hp.ended, hq.ended]
  addr s := by simp [hp.addr, hq.addr]
  frame s h := hp.frame _ (hq.frame s h)

theorem acked_of_eq {n : Nat} {s t : State} (ha : ∀ k, t.answer k = s.answer k) (hd : t.draws = s.draws)
    (h : acked n s) : acked n t := fun k hk => by rw [ha, hd]; exact h k hk

theorem failsAt_of_eq {n : Nat} {s t : State} (ha : ∀ k, t.answer k = s.answer k) (hd : t.draws = s.draws)
    (h : failsAt n s) : failsAt n t := ⟨acked_of_eq ha hd h.1, by rw [ha, hd]; exact h.2⟩

theorem acked_sent {n : Nat} {es : List BusEvent} {s : State} (h : acked (es.length + n) s) : acked n (sent es s) :=
  fun k hk => by
    rw [sent_answer, sent_draws, Nat.add_assoc]
    exact h _ (by omega)

theorem failsAt_sent {n : Nat} {es : List BusEvent} {s : State} (h : failsAt (es.length + n) s) : failsAt n (sent es s) :=
  ⟨acked_sent h.1, by rw [sent_answer, sent_draws, Nat.add_assoc]; exact h.2⟩

theorem acked_mono {m n : Nat} {s : State} (h : acked n s) (hm : m ≤ n) : acked m s :=
  fun k hk => h k (Nat.lt_of_lt_of_le hk hm)

theorem failsAt_acked {m n : Nat} {s : State} (h : failsAt n s) (hm : m ≤ n) : acked m s := acked_mono h.1 hm

theorem abortedEvents_left (es fs : List BusEvent) (n : Nat) (h : n < es.length) :
    abortedEvents (es ++ fs) n = abortedEvents es n := by
  simp only [abortedEvents]
  rw [List.take_append_of_le_length (by omega), List.getElem?_append_left h]

theorem abortedEvents_right (es fs : List BusEvent) (n : Nat) :
    abortedEvents (es ++ fs) (es.length + n) = es ++ abortedEvents fs n := by
  simp only [abortedEvents]
  rw [List.take_append, List.getElem?_append_right (by omega), List.take_of_length_le (by omega)]
  have : es.length + n + 1 - es.length = n + 1 := by omega
  simp [this]

/-- Everything about a part of an operation, outside a data frame: if every event is acknowledged it has sent them all and
written `p`; at the first err it has ended with what R112 leaves. -/
structure Sends (a : Addr7) (k : State → Attempt) (es : List BusEvent) (p : State → State) : Prop where
  ok    : ∀ s, s.cfg.addr = a → s.frame ≠ .data → acked es.length s → k s = .going (p (sent es s))
  fails : ∀ s n, s.cfg.addr = a → s.frame ≠ .data → n < es.length → failsAt n s → k s = .ended (cutShort es n s)

/-- What such a part can do. -/
theorem Sends.cases {a : Addr7} {k : State → Attempt} {es : List BusEvent} {p : State → State} (h : Sends a k es p)
    (s : State) (ha : s.cfg.addr = a) (hf : s.frame ≠ .data) :
    k s = .going (p (sent es s)) ∨ ∃ n < es.length, k s = .ended (cutShort es n s) := by
  rcases acked_or_fails es.length s with hk | ⟨n, hn, hk⟩
  · exact .inl (h.ok s ha hf hk)
  · exact .inr ⟨n, hn, h.fails s n ha hf hn hk⟩

theorem sends_event (a : Addr7) (e : BusEvent) : Sends a (tryEvent e) [e] id where
  ok s _ _ h := tryEvent_ok e s (by simpa using h 0 (by simp))
  fails s n _ hf hn h := by
    obtain rfl : n = 0 := by simpa using hn
    rw [tryEvent_err e s (by simpa using h.2), transportFail_eq e _ (by simpa using hf), endedWith_sent, cutShort]
    cases e <;> simp [abortedEvents, releasing]

theorem sends_begin (a : Addr7) : Sends a tryBegin [.beginEv (addrByte a)] id where
  ok s ha hf h := by rw [tryBegin, ha]; exact (sends_event a _).ok s ha hf h
  fails s n ha hf hn h := by rw [tryBegin, ha]; exact (sends_event a _).fails s n ha hf hn h

theorem sends_nil (a : Addr7) : Sends a Attempt.going [] id where
  ok s _ _ _ := by rw [sent_nil]; rfl
  fails s n _ _ hn _ := by simp at hn

/-- One part after another. -/
theorem Sends.bind {a : Addr7} {k l : State → Attempt} {es fs : List BusEvent} {p q : State → State}
    (hk : Sends a k es p) (hl : Sends a l fs q) (hp : Quiet p) :
    Sends a (fun s => (k s).bind l) (es ++ fs) (q ∘ p) where
  ok s ha hf h := by
    rw [List.length_append] at h
    rw [hk.ok s ha hf (acked_mono h (by omega)), Attempt.bind, hl.ok]
    · rw [← hp.sent, sent_sent]; rfl
    · rw [hp.addr]; exact ha
    · exact hp.frame _ hf
    · exact acked_of_eq (hp.answer _) (hp.draws _) (acked_sent h)
  fails s n ha hf hn h := by
    by_cases hlt : n < es.length
    · rw [hk.fails s n ha hf hlt h, Attempt.bind, cutShort, cutShort, abortedEvents_left _ _ _ hlt]
    · obtain ⟨m, rfl⟩ := Nat.exists_eq_add_of_le (Nat.le_of_not_lt hlt)
      rw [hk.ok s ha hf (failsAt_acked h (by omega)), Attempt.bind, hl.fails _ m]
      · rw [cutShort, cutShort, hp.ended, endedWith_sent, abortedEvents_right]
      · rw [hp.addr]; exact ha
      · exact hp.frame _ hf
      · rw [List.length_append] at hn; omega
      · exact failsAt_of_eq (hp.answer _) (hp.draws _) (failsAt_sent h)

/-- A register write before a part. -/
theorem Sends.after {a : Addr7} {k : State → Attempt} {es : List BusEvent} {p q : State → State}
    (hk : Sends a k es p) (hq : Quiet q) : Sends a (fun s => k (q s)) es (p ∘ q) where
  ok s ha hf h := by
    rw [hk.ok _ (by rw [hq.addr]; exact ha) (hq.frame s hf) (acked_of_eq (hq.answer s) (hq.draws s) h), ← hq.sent]
    rfl
  fails s n ha hf hn h := by
    rw [hk.fails _ n (by rw [hq.addr]; exact ha) (hq.frame s hf) hn (failsAt_of_eq (hq.answer s) (hq.draws s) h),
      cutShort, cutShort, hq.ended]

/-- A register write behind a part. -/
theorem Sends.map {a : Addr7} {k : State → Attempt} {es : List BusEvent} {p : State → State} (hk : Sends a k es p)
    (q : State → State) : Sends a (fun s => (k s).map q) es (q ∘ p) where
  ok s ha hf h := by rw [hk.ok s ha hf h]; rfl
  fails s n ha hf hn h := by rw [hk.fails s n ha hf hn h]; rfl

/-- A command byte after its control byte (R82). -/
theorem sends_commandByte (a : Addr7) (c : Byte) :
    Sends a (tryCommandByte c) [.byteEv 0x00, .byteEv c] (addCount 2) :=
  ((sends_event a (.byteEv ctrlCmd)).after (quiet_addCount 2)).bind (sends_event a (.byteEv c))
    (quiet_id.comp (quiet_addCount 2))

/-- The command bytes of a group (R121). -/
theorem sends_commandBytes (a : Addr7) (g : List Byte) :
    Sends a (tryCommandBytes g) (g.flatMap fun c => [.byteEv 0x00, .byteEv c]) (addCount (2 * g.length)) := by
  induction g with
  | nil => exact sends_nil a
  | cons c g ih =>
    have h := (sends_commandByte a c).bind ih (quiet_addCount 2)
    have hp : addCount (2 * g.length) ∘ addCount 2 = addCount (2 * (c :: g).length) := by
      funext s; simp [addCount, Nat.mul_add, Nat.add_assoc, Nat.add_comm]
    rw [hp] at h
    exact h

/-- `SendGroup` (R121). -/
theorem sends_group (a : Addr7) (g : List Byte) :
    Sends a (sendGroup g) (groupEvents (addrByte a) g) closeFrame := by
  have h := (((sends_begin a).after (quiet_openCmd 0)).bind (sends_commandBytes a g) (quiet_id.comp (quiet_openCmd 0))).bind
    (sends_event a .endEv) ((quiet_addCount _).comp (quiet_id.comp (quiet_openCmd 0)))
  exact h.map closeFrame

/-- `SendGroup` of several groups (R121). -/
theorem sends_groups (a : Addr7) (gs : List (List Byte)) :
    Sends a (sendGroups gs) (groupsEvents (addrByte a) gs) (if gs = [] then id else closeFrame) := by
  induction gs with
  | nil => exact sends_nil a
  | cons g gs ih =>
    have h := (sends_group a g).bind ih quiet_closeFrame
    have hp : (if gs = [] then id else closeFrame) ∘ closeFrame = closeFrame := by
      by_cases hg : gs = []
      · simp [hg]
      · simp only [hg, if_false]; rfl
    rw [hp] at h
    rw [if_neg (List.cons_ne_nil g gs)]
    exact h

end Sys2Proof.Machine
end

