-- ==== Sys2Proof/Laws/Encoding.lean ====
section
/-! SUPPORT. What each field of a word reads as after each encoder, and the table row each operation's word selects. -/

namespace Sys2Proof

theorem field_low (op : BitVec 4) (x : BitVec 12) (i n : Nat) (h : i + n ≤ 12) :
    (op ++ x : BitVec 16).extractLsb' i n = x.extractLsb' i n := BitVec.extractLsb'_append_eq_of_add_le h

theorem opcode_append (op : BitVec 4) (x : BitVec 12) : opcode (op ++ x) = op := by
  have h : opcode (op ++ x) = op.extractLsb' 0 4 := BitVec.extractLsb'_append_eq_of_le (by decide)
  rw [h]; simp

@[simp] theorem opcode_encodeN (op : BitVec 4) : opcode (encodeN op) = op := opcode_append op _
@[simp] theorem opcode_encodeB (op : BitVec 4) (b : Byte) : opcode (encodeB op b) = op := opcode_append op _
@[simp] theorem opcode_encodeF (op : BitVec 4) (f : Bool) : opcode (encodeF op f) = op := opcode_append op _
@[simp] theorem opcode_encodeP (op r : BitVec 4) (c : BitVec 8) : opcode (encodeP op r c) = op := opcode_append op _
@[simp] theorem opcode_encodeA (op : BitVec 4) (a : Addr7) : opcode (encodeA op a) = op := opcode_append op _

@[simp] theorem zeroN_encodeN (op : BitVec 4) : zeroN (encodeN op) = true := by
  have h : (encodeN op).extractLsb' 0 12 = 0#12 := BitVec.extractLsb'_append_eq_right
  simp [zeroN, h]

@[simp] theorem zeroB_encodeB (op : BitVec 4) (b : Byte) : zeroB (encodeB op b) = true := by
  have h : (encodeB op b).extractLsb' 8 4 = 0#4 := by
    refine (field_low op _ 8 4 (by decide)).trans ?_
    exact (BitVec.extractLsb'_append_eq_of_le (by decide)).trans (by decide)
  simp [zeroB, h]

@[simp] theorem imm8_encodeB (op : BitVec 4) (b : Byte) : imm8 (encodeB op b) = b := by
  refine (field_low op _ 0 8 (by decide)).trans ?_
  exact BitVec.extractLsb'_append_eq_right

@[simp] theorem zeroF_encodeF (op : BitVec 4) (f : Bool) : zeroF (encodeF op f) = true := by
  have h : (encodeF op f).extractLsb' 1 11 = 0#11 := by
    refine (field_low op _ 1 11 (by decide)).trans ?_
    cases f <;> decide
  simp [zeroF, h]

@[simp] theorem flagField_encodeF (op : BitVec 4) (f : Bool) : flagField (encodeF op f) = f := by
  have h : (encodeF op f).extractLsb' 0 1 = BitVec.ofBool f := by
    refine (field_low op _ 0 1 (by decide)).trans ?_
    cases f <;> decide
  cases f <;> simp [flagField, h]

@[simp] theorem rowField_encodeP (op r : BitVec 4) (c : BitVec 8) : rowField (encodeP op r c) = r := by
  have h : (r ++ c : BitVec 12).extractLsb' 8 4 = r.extractLsb' 0 4 := BitVec.extractLsb'_append_eq_of_le (by decide)
  refine (field_low op _ 8 4 (by decide)).trans (h.trans ?_)
  simp

@[simp] theorem imm8_encodeP (op r : BitVec 4) (c : BitVec 8) : imm8 (encodeP op r c) = c := by
  refine (field_low op _ 0 8 (by decide)).trans ?_
  exact BitVec.extractLsb'_append_eq_right

@[simp] theorem zeroA_encodeA (op : BitVec 4) (a : Addr7) : zeroA (encodeA op a) = true := by
  have h : (encodeA op a).extractLsb' 7 5 = 0#5 := by
    refine (field_low op _ 7 5 (by decide)).trans ?_
    exact (BitVec.extractLsb'_append_eq_of_le (by decide)).trans (by decide)
  simp [zeroA, h]

@[simp] theorem addr7Field_encodeA (op : BitVec 4) (a : Addr7) : addr7Field (encodeA op a) = a := by
  refine (field_low op _ 0 7 (by decide)).trans ?_
  exact BitVec.extractLsb'_append_eq_right

/-- A mask and a word, each of an opcode part and the rest. -/
theorem word_and_mask (op mo : BitVec 4) (x mx : BitVec 12) :
    ((op ++ x : BitVec 16) &&& (mo ++ mx : BitVec 16)) = ((op &&& mo) ++ (x &&& mx) : BitVec 16) := BitVec.and_append

end Sys2Proof
end

