-- ==== Sys2Proof/Laws/Memory.lean ====
section
/-! SUPPORT. The laws of the display memory: what each operation makes a cell read as, and that each keeps the canonical
form. -/

namespace Sys2Proof.Machine

@[simp] theorem Memory.read_nil (k : Nat) : Memory.read [] k = none := rfl

/-- A cell below every listed one is Unknown. -/
theorem Memory.read_eq_none (m : Memory) (k : Nat) (h : k ∉ m.map Prod.fst) : m.read k = none := by
  induction m with
  | nil => rfl
  | cons c m ih =>
    obtain ⟨a, v⟩ := c
    simp only [List.map_cons, List.mem_cons, not_or] at h
    simp [Memory.read, Ne.symm h.1, ih h.2]

/-- Read after write (R53). -/
theorem Memory.read_write (m : Memory) (k j : Nat) (v : Byte) :
    (m.write k v).read j = if j = k then some v else m.read j := by
  induction m with
  | nil => simp [Memory.write, Memory.read, eq_comm]
  | cons c m ih =>
    obtain ⟨a, b⟩ := c
    by_cases hlt : k < a
    · simp [Memory.write, hlt, Memory.read, eq_comm]
    · by_cases hka : k = a
      · subst hka
        by_cases hj : j = k
        · simp [Memory.write, Memory.read, hj]
        · simp [Memory.write, Memory.read, hj, Ne.symm hj]
      · simp only [Memory.write, if_neg hlt, if_neg hka, Memory.read, ih]
        by_cases ha : a = j
        · subst ha; simp [Ne.symm hka]
        · simp [ha]

/-- Read after invalidate (R54). -/
theorem Memory.read_forget (m : Memory) (k j : Nat) :
    (m.forget k).read j = if j = k then none else m.read j := by
  induction m with
  | nil => simp [Memory.forget]
  | cons c m ih =>
    obtain ⟨a, b⟩ := c
    have hc : Memory.forget ((a, b) :: m) k = if a = k then Memory.forget m k else (a, b) :: Memory.forget m k := by
      by_cases ha : a = k <;> simp [Memory.forget, ha]
    rw [hc]
    by_cases ha : a = k
    · subst ha
      by_cases hj : j = a
      · subst hj; simpa using ih
      · simp [ih, hj, Memory.read, Ne.symm hj]
    · simp only [if_neg ha, Memory.read, ih]
      by_cases haj : a = j
      · subst haj; simp [ha]
      · simp [haj]

/-- Read after the loop of R112. -/
theorem Memory.read_forgetFrom (m : Memory) (base n j : Nat) :
    (m.forgetFrom base n).read j = if base ≤ j ∧ j < base + n then none else m.read j := by
  induction n generalizing m base with
  | zero => simp [Memory.forgetFrom]
  | succ n ih =>
    rw [Memory.forgetFrom, ih, Memory.read_forget]
    by_cases h1 : j = base
    · subst h1; simp
    · by_cases h2 : base + 1 ≤ j ∧ j < base + 1 + n
      · rw [if_pos h2, if_pos (by omega)]
      · rw [if_neg h2, if_neg h1, if_neg (by omega)]

/-- The addresses a write lists. -/
theorem Memory.mem_write (m : Memory) (k : Nat) (v : Byte) (a : Nat) :
    a ∈ (m.write k v).map Prod.fst ↔ a = k ∨ a ∈ m.map Prod.fst := by
  induction m with
  | nil => simp [Memory.write]
  | cons c m ih =>
    obtain ⟨b, w⟩ := c
    by_cases hlt : k < b
    · simp [Memory.write, hlt]
    · by_cases hkb : k = b
      · subst hkb; simp [Memory.write]
      · simp only [Memory.write, hlt, hkb, if_false, List.map_cons, List.mem_cons, ih]; tauto

/-- A write of an existing cell keeps the canonical form. -/
theorem Memory.wf_write (m : Memory) (k : Nat) (v : Byte) (h : m.wf) (hk : k < nCells) : (m.write k v).wf := by
  refine ⟨?_, fun a ha => ?_⟩
  · replace h := h.1
    induction m with
    | nil => simp [Memory.write]
    | cons c m ih =>
      obtain ⟨b, w⟩ := c
      simp only [List.map_cons, List.pairwise_cons] at h
      by_cases hlt : k < b
      · simp only [Memory.write, hlt, if_true, List.map_cons, List.pairwise_cons, List.mem_cons]
        exact ⟨fun a ha => ha.elim (fun e => e ▸ hlt) (fun e => hlt.trans (h.1 a e)), h⟩
      · by_cases hkb : k = b
        · subst hkb; simpa [Memory.write] using h
        · simp only [Memory.write, hlt, hkb, if_false, List.map_cons, List.pairwise_cons]
          refine ⟨fun a ha => ?_, ih h.2⟩
          rcases (Memory.mem_write m k v a).1 ha with rfl | ha
          · omega
          · exact h.1 a ha
  · rcases (Memory.mem_write m k v a).1 ha with rfl | ha
    · exact hk
    · exact h.2 a ha

/-- Invalidating a cell keeps the canonical form. -/
theorem Memory.wf_forget (m : Memory) (k : Nat) (h : m.wf) : (m.forget k).wf := by
  have hs : ((m.forget k).map Prod.fst).Sublist (m.map Prod.fst) := List.filter_sublist.map _
  exact ⟨h.1.sublist hs, fun a ha => h.2 a (hs.subset ha)⟩

/-- The loop of R112 keeps the canonical form. -/
theorem Memory.wf_forgetFrom (m : Memory) (base n : Nat) (h : m.wf) : (m.forgetFrom base n).wf := by
  induction n generalizing m base with
  | zero => exact h
  | succ n ih => exact ih _ _ (Memory.wf_forget m base h)

/-- Two canonical memories that read alike are equal. -/
theorem Memory.ext_read (m n : Memory) (hm : m.wf) (hn : n.wf) (h : ∀ k, m.read k = n.read k) : m = n := by
  replace hm := hm.1
  replace hn := hn.1
  induction m generalizing n with
  | nil =>
    cases n with
    | nil => rfl
    | cons c n => obtain ⟨a, v⟩ := c; simpa [Memory.read] using h a
  | cons c m ih =>
    obtain ⟨a, v⟩ := c
    cases n with
    | nil => simpa [Memory.read] using h a
    | cons d n =>
      obtain ⟨b, w⟩ := d
      simp only [List.map_cons, List.pairwise_cons] at hm hn
      have hma : Memory.read m a = none := Memory.read_eq_none m a fun e => (lt_irrefl a) (hm.1 a e)
      have hnb : Memory.read n b = none := Memory.read_eq_none n b fun e => (lt_irrefl b) (hn.1 b e)
      have hab : a = b := by
        by_contra hne
        rcases Nat.lt_or_gt_of_ne hne with hlt | hlt
        · have := h a
          simp only [Memory.read, Ne.symm hne, if_true, if_false] at this
          rw [Memory.read_eq_none n a fun e => absurd (hn.1 a e) (by omega)] at this
          simp at this
        · have := h b
          simp only [Memory.read, hne, if_true, if_false] at this
          rw [Memory.read_eq_none m b fun e => absurd (hm.1 b e) (by omega)] at this
          simp at this
      subst hab
      have hv : v = w := by simpa [Memory.read] using h a
      subst hv
      rw [ih n (fun k => ?_) hm.2 hn.2]
      by_cases hk : a = k
      · subst hk; rw [hma, hnb]
      · simpa [Memory.read, hk] using h k

end Sys2Proof.Machine
end

