-- ==== Sys2Proof/Laws/Operands.lean ====
section
/-! SUPPORT. What the operand computations give, as numbers. -/

namespace Sys2Proof.Machine

theorem addrByte_toNat (a : Addr7) : (addrByte a).toNat = 2 * a.toNat := by revert a; decide

theorem colLo_eq (c : BitVec 8) : colLo c = BitVec.ofNat 8 (c.toNat % 16) := by revert c; decide

theorem colHi_eq (c : BitVec 8) : colHi c = BitVec.ofNat 8 (c.toNat / 16) := by revert c; decide

theorem rowPage_eq (r : BitVec 4) : rowPage r = BitVec.ofNat 3 r.toNat := by revert r; decide

theorem rowPage_toNat (r : BitVec 4) (h : r.toNat ≤ 7) : (rowPage r).toNat = r.toNat := by
  revert r; decide

theorem inRange_iff (r : BitVec 4) (c : BitVec 8) : inRange r c = true ↔ r.toNat ≤ 7 ∧ c.toNat ≤ 127 := by
  rw [inRange, Bool.and_eq_true, decide_eq_true_iff, decide_eq_true_iff, nPages, nCols]
  omega

theorem inRange_false_iff (r : BitVec 4) (c : BitVec 8) : inRange r c = false ↔ r.toNat > 7 ∨ c.toNat > 127 := by
  rw [← Bool.not_eq_true, inRange_iff]
  omega

/-- On the grid the cell exists (R62). -/
theorem cellAddr_lt (p : BitVec 3) (c : BitVec 8) (h : c.toNat < 128) : cellAddr p c < nCells := by
  have := p.isLt
  simp only [cellAddr, nCells, nCols, nPages]
  omega

end Sys2Proof.Machine
end

