-- ==== Sys2Proof/Laws/Exec.lean ====
section
/-! SUPPORT. The inversion of `exec`: if an operation answers a next state, that state is one of those `Did` lists. Rules
about every operation are proved by cases on it instead of unfolding the meanings. -/

namespace Sys2Proof.Machine

/-- The command groups a composite operation sends; none for the others (R120). -/
def groupsOf (c : Config) : Instr → Option (List (List Byte))
  | .config _ => none
  | .initialise => some c.initSeq
  | .beginCmd => none
  | .cmdByte _ => none
  | .endCmd => none
  | .beginData => none
  | .dataByte _ => none
  | .endData => none
  | .sendCommand b => some [[b]]
  | .setPosition row col => some (positionGroups c.cmdEnc row col)
  | .setContrast level => some [contrastGroup c.cmdEnc level]
  | .invertScreen f => some [invertGroup c.cmdEnc f]
  | .sleep f => some [sleepGroup c.cmdEnc f]

/-- INIT.done after a composite operation that passed its checks: only INITIALIZE writes it (R24, R171). -/
def initAfter (i : Instr) (b : Bool) (s : State) : Bool := if i = .initialise then b else s.initDone

/-- CUR after a composite operation that ended OK (R27). -/
def curAfter (i : Instr) (s : State) : Cur :=
  match i with
  | .setPosition row col => { valid := true, page := rowPage row, col := col }
  | _ => { s.cur with valid := false }

/-- Every next state an operation can answer, with what brought it about. -/
inductive Did (s : State) : Instr → State → Prop
  /-- A check failed (R201). -/
  | rejected (i : Instr) (e : ErrorCode) (h : causeApplies i s e = true) : Did s i (rejected e s)
  /-- DATA_BYTE at the right edge (R117). -/
  | clipped (v : Byte) (hf : s.frame = .data) (hc : s.cur.col.toNat = 128) :
    Did s (.dataByte v) { s with status := .clipped }
  /-- CONFIG (R170). -/
  | configured (a : Addr7) (hn : s.cfg.configured = false) (ha : s.config.addrSet.contains a = true) :
    Did s (.config a) { s with cfg := { addr := a, configured := true }, status := .ok }
  /-- BEGIN_CMD (R113). -/
  | beganCmd (hc : s.cfg.configured = true) (hf : s.frame = .idle) :
    Did s .beginCmd { sent [.beginEv (addrByte s.cfg.addr)] s with
      cur.valid := false, frame := .cmd, txn.count := 0, status := .ok }
  /-- CMD_BYTE (R114). -/
  | sentCmdByte (c : Byte) (hf : s.frame = .cmd) (hn : s.config.txnCap.admits (s.txn.count + 2) = true) :
    Did s (.cmdByte c) { sent [.byteEv 0x00, .byteEv c] s with txn.count := s.txn.count + 2, status := .ok }
  /-- END_CMD (R115). -/
  | endedCmd (hf : s.frame = .cmd) (hn : s.txn.count ≠ 0) :
    Did s .endCmd { sent [.endEv] s with frame := .idle, txn.count := 0, status := .ok }
  /-- BEGIN_DATA (R116). -/
  | beganData (hc : s.cfg.configured = true) (hi : s.initDone = true) (hf : s.frame = .idle) (hv : s.cur.valid = true) :
    Did s .beginData { sent [.beginEv (addrByte s.cfg.addr), .byteEv 0x40] s with
      frame := .data, txn := { count := 1, col0 := s.cur.col }, status := .ok }
  /-- DATA_BYTE (R117). -/
  | sentDataByte (v : Byte) (hf : s.frame = .data) (hc : s.cur.col.toNat ≠ 128)
      (hn : s.config.txnCap.admits (s.txn.count + 1) = true) (ha : cellAddr s.cur.page s.cur.col < nCells) :
    Did s (.dataByte v) { sent [.byteEv v] s with
      cur.col := s.cur.col + 1, txn.count := s.txn.count + 1, status := .ok,
      disp := s.disp.write (cellAddr s.cur.page s.cur.col) v }
  /-- END_DATA (R118). -/
  | endedData (hf : s.frame = .data) :
    Did s .endData { sent [.endEv] s with cur.valid := false, frame := .idle, txn.count := 0, status := .ok }
  /-- A composite operation (R119, R150, R171, R173 to R175). -/
  | composed (i : Instr) (gs : List (List Byte)) (hg : groupsOf s.config i = some gs) (hc : s.cfg.configured = true)
      (hi : needsInit i = true → s.initDone = true) (hf : s.frame = .idle) (hr : offGrid i = false) :
    Did s i { sent (groupsEvents (addrByte s.cfg.addr) gs) s with
      initDone := initAfter i true s, cur := curAfter i s, status := .ok,
      txn.count := if gs = [] then s.txn.count else 0 }
  /-- A transport error of a composite operation (R112, R121). -/
  | composedFailed (i : Instr) (gs : List (List Byte)) (n : Nat) (hg : groupsOf s.config i = some gs)
      (hc : s.cfg.configured = true) (hf : s.frame = .idle)
      (hn : n < (groupsEvents (addrByte s.cfg.addr) gs).length) :
    Did s i { cutShort (groupsEvents (addrByte s.cfg.addr) gs) n s with initDone := initAfter i false s }
  /-- A transport error of BEGIN_CMD (R113). -/
  | beginCmdFailed (hc : s.cfg.configured = true) (hf : s.frame = .idle) :
    Did s .beginCmd (cutShort [.beginEv (addrByte s.cfg.addr)] 0 s)
  /-- A transport error of CMD_BYTE (R114). -/
  | cmdByteFailed (c : Byte) (n : Nat) (hn : n < 2) (hf : s.frame = .cmd) :
    Did s (.cmdByte c) (cutShort [.byteEv 0x00, .byteEv c] n s)
  /-- A transport error of END_CMD (R115). -/
  | endCmdFailed (hf : s.frame = .cmd) : Did s .endCmd (cutShort [.endEv] 0 s)
  /-- A transport error of BEGIN_DATA: no cell yet belongs to the transaction (R116). -/
  | beginDataFailed (n : Nat) (hn : n < 2) (hc : s.cfg.configured = true) (hf : s.frame = .idle) :
    Did s .beginData { cutShort [.beginEv (addrByte s.cfg.addr), .byteEv 0x40] n s with txn.col0 := s.cur.col }
  /-- A transport error of DATA_BYTE (R117). -/
  | dataByteFailed (v : Byte) (hf : s.frame = .data) :
    Did s (.dataByte v) { cutShort [.byteEv v] 0 s with
      cur.col := s.cur.col + 1,
      disp := s.disp.forgetFrom (cellAddr s.cur.page s.txn.col0) ((s.cur.col + 1).toNat - s.txn.col0.toNat) }
  /-- A transport error of END_DATA (R118). -/
  | endDataFailed (hf : s.frame = .data) :
    Did s .endData { cutShort [.endEv] 0 s with
      disp := s.disp.forgetFrom (cellAddr s.cur.page s.txn.col0) (s.cur.col.toNat - s.txn.col0.toNat) }

theorem reject_eq (e : ErrorCode) (s : State) : reject e s = .next (rejected e s) := rfl

/-- What is left of a composite operation after its checks: `p` before the groups, `q` behind them. -/
theorem did_composite (i : Instr) (gs : List (List Byte)) (s t : State) (p q : State → State)
    (hg : groupsOf s.config i = some gs) (hc : s.cfg.configured = true) (hi : needsInit i = true → s.initDone = true)
    (hf : s.frame = .idle) (hr : offGrid i = false) (ha : (p s).cfg.addr = s.cfg.addr) (hpf : (p s).frame = s.frame)
    (hok : ∀ es, finish .ok (q ((if gs = [] then id else closeFrame) (sent es (p s)))) =
      { sent es s with
        initDone := initAfter i true s, cur := curAfter i s, status := .ok,
        txn.count := if gs = [] then s.txn.count else 0 })
    (hfail : ∀ es n, cutShort es n (p s) = { cutShort es n s with initDone := initAfter i false s })
    (h : (((sendGroups gs (p s)).map q).complete .ok) = .next t) : Did s i t := by
  have hd : (p s).frame ≠ .data := by rw [hpf, hf]; decide
  rcases ((sends_groups s.cfg.addr gs).map q).cases (p s) ha hd with hk | ⟨n, hn, hk⟩
  · rw [hk] at h
    injection h with h
    subst h
    rw [Function.comp, hok]
    exact .composed i gs hg hc hi hf hr
  · rw [hk] at h
    injection h with h
    subst h
    rw [hfail]
    exact .composedFailed i gs n hg hc hf hn

/-- A composite of one group, sent after `CUR.valid <- 0`. -/
theorem did_group (i : Instr) (g : List Byte) (s t : State)
    (hg : groupsOf s.config i = some [g]) (hc : s.cfg.configured = true) (hi : needsInit i = true → s.initDone = true)
    (hf : s.frame = .idle) (hr : offGrid i = false) (hn : i ≠ .initialise) (hp : ∀ r c, i ≠ .setPosition r c)
    (h : (sendGroup g (clearCursor s)).complete .ok = .next t) : Did s i t := by
  have hcur : curAfter i s = { s.cur with valid := false } := by
    cases i <;> first | rfl | exact absurd rfl (hp _ _)
  have hone : ((sendGroups [g] (clearCursor s)).map id) = sendGroup g (clearCursor s) := by
    simp only [sendGroups]
    cases sendGroup g (clearCursor s) <;> rfl
  refine did_composite i [g] s t clearCursor id hg hc hi hf hr rfl rfl (fun es => ?_) (fun es n => ?_) (hone ▸ h)
  · simp [initAfter, hn, hcur, finish, closeFrame, clearCursor, sent, hf]
  · simp [initAfter, hn, clearCursor, cutShort, endedWith]

/-- The checks of a passthrough (R173 to R175). -/
theorem did_passthrough (i : Instr) (g : List Byte) (s t : State) (hg : groupsOf s.config i = some [g])
    (hi : needsInit i = true) (hc : needsConfig i = true) (hfr : needsFrame i = some .idle) (hr : offGrid i = false)
    (hn : i ≠ .initialise) (hp : ∀ r c, i ≠ .setPosition r c) (h : passthrough g s = .next t) : Did s i t := by
  unfold passthrough at h
  split at h
  · rename_i h1
    cases h
    exact .rejected i .config (by simp [causeApplies, hc, h1])
  · rename_i h1
    split at h
    · rename_i h2
      cases h
      exact .rejected i .notInit (by simp [causeApplies, hi, h2])
    · rename_i h2
      split at h
      · rename_i h3
        cases h
        exact .rejected i .frame (by simp [causeApplies, hfr, h3])
      · rename_i h3
        exact did_group i g s t hg (by simpa using h1) (fun _ => by simpa using h2) (by simpa using h3) hr hn hp h

/-- The inversion of `exec`. -/
theorem exec_did (i : Instr) (s t : State) (h : exec i s = .next t) : Did s i t := by
  cases i with
  | config a =>
    simp only [exec, execConfig] at h
    split at h
    · rename_i h1; cases h; exact .rejected _ .config (by simp [causeApplies, refusesConfig, h1])
    · rename_i h1
      split at h
      · rename_i h2; cases h; exact .rejected _ .config (by simp only [causeApplies, refusesConfig, h2]; simp)
      · rename_i h2
        cases h
        exact .configured a (by simpa using h1) (by simpa using h2)
  | initialise =>
    simp only [exec, execInitialize] at h
    split at h
    · rename_i h1; cases h; exact .rejected _ .config (by simp [causeApplies, needsConfig, h1])
    · rename_i h1
      split at h
      · rename_i h2; cases h; exact .rejected _ .frame (by simp [causeApplies, needsFrame, h2])
      · rename_i h2
        have hf : s.frame = .idle := by simpa using h2
        refine did_composite .initialise s.config.initSeq s t (fun s => clearCursor (setInitDone false s)) (setInitDone true)
          rfl (by simpa using h1) (by simp [needsInit]) hf rfl rfl rfl (fun es => ?_) (fun es n => ?_) h
        · split <;> simp [initAfter, curAfter, finish, setInitDone, clearCursor, sent, closeFrame, hf]
        · simp [initAfter, cutShort, endedWith, clearCursor, setInitDone]
  | beginCmd =>
    simp only [exec, execBeginCmd] at h
    split at h
    · rename_i h1; cases h; exact .rejected _ .config (by simp [causeApplies, needsConfig, h1])
    · rename_i h1
      split at h
      · rename_i h2; cases h; exact .rejected _ .frame (by simp [causeApplies, needsFrame, h2])
      · rename_i h2
        have hc : s.cfg.configured = true := by simpa using h1
        have hf : s.frame = .idle := by simpa using h2
        rcases ((sends_begin s.cfg.addr).after ((quiet_openCmd 0).comp quiet_clearCursor)).cases s rfl (by simp [hf])
          with hk | ⟨n, hn, hk⟩
        · simp only [Function.comp] at hk; rw [hk] at h; cases h; exact .beganCmd hc hf
        · simp only [Function.comp] at hk; rw [hk] at h; cases h
          obtain rfl : n = 0 := by simpa using hn
          exact .beginCmdFailed hc hf
  | cmdByte c =>
    simp only [exec, execCmdByte] at h
    split at h
    · rename_i h1; cases h; exact .rejected _ .frame (by simp [causeApplies, needsFrame, h1])
    · rename_i h1
      split at h
      · rename_i h2; cases h; exact .rejected _ .full (by simp [causeApplies, bytesNeeded, h2])
      · rename_i h2
        have hf : s.frame = .cmd := by simpa using h1
        rcases (sends_commandByte s.cfg.addr c).cases s rfl (by simp [hf]) with hk | ⟨n, hn, hk⟩
        · rw [hk] at h; cases h; exact .sentCmdByte c hf (by simpa using h2)
        · rw [hk] at h; cases h; exact .cmdByteFailed c n hn hf
  | endCmd =>
    simp only [exec, execEndCmd] at h
    split at h
    · rename_i h1; cases h; exact .rejected _ .frame (by simp [causeApplies, needsFrame, h1])
    · rename_i h1
      split at h
      · rename_i h2; cases h; exact .rejected _ .frame (by simp [causeApplies, h2])
      · rename_i h2
        have hf : s.frame = .cmd := by simpa using h1
        rcases ((sends_event s.cfg.addr .endEv).map closeFrame).cases s rfl (by simp [hf]) with hk | ⟨n, hn, hk⟩
        · rw [tryEnd, hk] at h; cases h; exact .endedCmd hf h2
        · rw [tryEnd, hk] at h; cases h
          obtain rfl : n = 0 := by simpa using hn
          exact .endCmdFailed hf
  | beginData =>
    simp only [exec, execBeginData] at h
    split at h
    · rename_i h1; cases h; exact .rejected _ .config (by simp [causeApplies, needsConfig, h1])
    · rename_i h1
      split at h
      · rename_i h2; cases h; exact .rejected _ .notInit (by simp [causeApplies, needsInit, h2])
      · rename_i h2
        split at h
        · rename_i h3; cases h; exact .rejected _ .frame (by simp [causeApplies, needsFrame, h3])
        · rename_i h3
          split at h
          · rename_i h4; cases h; exact .rejected _ .cursor (by simp [causeApplies, h4])
          · rename_i h4
            have hc : s.cfg.configured = true := by simpa using h1
            have hf : s.frame = .idle := by simpa using h3
            cases a0 : (markColumn (openFrame .data 1 s)).answer (markColumn (openFrame .data 1 s)).draws with
            | err =>
              rw [tryBegin, tryEvent_err _ _ a0, transportFail_data _ _ rfl] at h
              cases h
              have hd := Did.beginDataFailed (s := s) 0 (by decide) hc hf
              simpa [cutShort, abortedEvents, endedWith, sent, markColumn, openFrame, releasing, Memory.forgetFrom,
                Nat.add_assoc] using hd
            | ok =>
              rw [tryBegin, tryEvent_ok _ _ a0, Attempt.bind, tryByte] at h
              cases a1 : (sent [.beginEv (addrByte (markColumn (openFrame .data 1 s)).cfg.addr)]
                  (markColumn (openFrame .data 1 s))).answer
                (sent [.beginEv (addrByte (markColumn (openFrame .data 1 s)).cfg.addr)]
                  (markColumn (openFrame .data 1 s))).draws with
              | err =>
                rw [tryEvent_err _ _ a1, transportFail_data _ _ rfl] at h
                cases h
                have hd := Did.beginDataFailed (s := s) 1 (by decide) hc hf
                simpa [cutShort, abortedEvents, endedWith, sent, markColumn, openFrame, releasing, Memory.forgetFrom,
                  Nat.add_assoc, ctrlData] using hd
              | ok =>
                rw [tryEvent_ok _ _ a1] at h
                cases h
                have hd := Did.beganData (s := s) hc (by simpa using h2) hf (by simpa using h4)
                simpa [finish, sent, markColumn, openFrame, ctrlData, Nat.add_assoc] using hd
  | dataByte v =>
    simp only [exec, execDataByte] at h
    split at h
    · rename_i h1; cases h; exact .rejected _ .frame (by simp [causeApplies, needsFrame, h1])
    · rename_i h1
      have hf : s.frame = .data := by simpa using h1
      split at h
      · rename_i h2; cases h; exact .clipped v hf h2
      · rename_i h2
        split at h
        · rename_i h3; cases h; exact .rejected _ .full (by simp [causeApplies, bytesNeeded, h3])
        · rename_i h3
          cases a0 : (advanceCursor s).answer (advanceCursor s).draws with
          | err =>
            rw [tryByte, tryEvent_err _ _ a0, transportFail_data _ _ (by simpa using hf)] at h
            cases h
            have hd := Did.dataByteFailed (s := s) v hf
            simpa [cutShort, abortedEvents, endedWith, sent, advanceCursor, releasing, Nat.add_assoc] using hd
          | ok =>
            rw [tryByte, tryEvent_ok _ _ a0] at h
            by_cases ha : cellAddr s.cur.page s.cur.col < nCells
            · simp only [memWrite, if_pos ha] at h
              cases h
              exact .sentDataByte v hf h2 (by simpa using h3) ha
            · simp only [memWrite, if_neg ha] at h
              cases h
  | endData =>
    simp only [exec, execEndData] at h
    split at h
    · rename_i h1; cases h; exact .rejected _ .frame (by simp [causeApplies, needsFrame, h1])
    · rename_i h1
      have hf : s.frame = .data := by simpa using h1
      cases a0 : (clearCursor s).answer (clearCursor s).draws with
      | err =>
        rw [tryEnd, tryEvent_err _ _ a0, transportFail_data _ _ (by simpa using hf)] at h
        cases h
        have hd := Did.endDataFailed (s := s) hf
        simpa [cutShort, abortedEvents, endedWith, sent, clearCursor, releasing] using hd
      | ok =>
        rw [tryEnd, tryEvent_ok _ _ a0] at h
        cases h
        exact .endedData hf
  | sendCommand c =>
    simp only [exec, execSendCommand] at h
    split at h
    · rename_i h1; cases h; exact .rejected _ .config (by simp [causeApplies, needsConfig, h1])
    · rename_i h1
      split at h
      · rename_i h2; cases h; exact .rejected _ .frame (by simp [causeApplies, needsFrame, h2])
      · rename_i h2
        exact did_group _ [c] s t rfl (by simpa using h1) (by simp [needsInit]) (by simpa using h2) rfl (by simp)
          (by simp) h
  | setPosition r c =>
    simp only [exec, execSetPosition] at h
    split at h
    · rename_i h1; cases h; exact .rejected _ .config (by simp [causeApplies, needsConfig, h1])
    · rename_i h1
      split at h
      · rename_i h2; cases h; exact .rejected _ .notInit (by simp [causeApplies, needsInit, h2])
      · rename_i h2
        split at h
        · rename_i h3; cases h; exact .rejected _ .frame (by simp [causeApplies, needsFrame, h3])
        · rename_i h3
          split at h
          · rename_i h4
            cases h
            exact .rejected _ .range (decide_eq_true ((inRange_false_iff r c).1 h4))
          · rename_i h4
            have hf : s.frame = .idle := by simpa using h3
            have hr := (inRange_iff r c).1 (by simpa using h4)
            refine did_composite _ (positionGroups s.config.cmdEnc r c) s t clearCursor (setCursor (rowPage r) c) rfl
              (by simpa using h1) (fun _ => by simpa using h2) hf (decide_eq_false (by omega)) rfl rfl (fun es => ?_)
              (fun es n => ?_) h
            · simp [positionGroups, initAfter, curAfter, finish, setCursor, clearCursor, sent, closeFrame, hf]
            · simp [initAfter, cutShort, endedWith, clearCursor]
  | setContrast l =>
    exact did_passthrough _ _ s t rfl rfl rfl rfl rfl (by simp) (by simp) h
  | invertScreen f =>
    exact did_passthrough _ _ s t rfl rfl rfl rfl rfl (by simp) (by simp) h
  | sleep f =>
    exact did_passthrough _ _ s t rfl rfl rfl rfl rfl (by simp) (by simp) h

end Sys2Proof.Machine
end

