-- ==== Sys2Proof/Laws/PerInstr.lean ====
section
/-! SUPPORT. A statement for every operation, proved constructor by constructor: its word selects the opcode table's row of
its mnemonic (R91). -/

namespace Sys2Proof.Laws.RowSelects

/-- The word of the operation selects the row of its mnemonic. -/
def Statement (i : Instr) : Prop := ∃ r ∈ opcodeTable, r.mnemonic = mnemonic i ∧ r.selects (encode i) = true

theorem config (addr7 : Addr7) : Statement (.config addr7) := by
  refine ⟨⟨"CONFIG", 0x1000, 0xFF80⟩, by decide, rfl, decide_eq_true ?_⟩
  revert addr7; decide

theorem initialise : Statement .initialise := ⟨⟨"INITIALIZE", 0x2000, 0xFFFF⟩, by decide, rfl, by decide⟩

theorem beginCmd : Statement .beginCmd := ⟨⟨"BEGIN_CMD", 0x3000, 0xFFFF⟩, by decide, rfl, by decide⟩

/-- A format B word under the format's mask is its opcode. -/
theorem formatB (op : BitVec 4) (b : Byte) : (encodeB op b &&& 0xFF00#16) = op ++ 0#12 := by
  refine (word_and_mask op 0xF#4 _ 0xF00#12).trans ?_
  have h1 : op &&& 0xF#4 = op := BitVec.and_allOnes
  have h2 : ((0#4 ++ b : BitVec 12) &&& 0xF00#12) = 0#12 := by
    refine (BitVec.and_append (x₁ := 0#4) (x₂ := 0xF#4) (y₁ := b) (y₂ := 0#8)).trans ?_
    simp
  rw [h1, h2]

theorem cmdByte (imm8 : Byte) : Statement (.cmdByte imm8) :=
  ⟨⟨"CMD_BYTE", 0x4000, 0xFF00⟩, by decide, rfl, decide_eq_true (formatB 0x4 imm8)⟩

theorem endCmd : Statement .endCmd := ⟨⟨"END_CMD", 0x5000, 0xFFFF⟩, by decide, rfl, by decide⟩

theorem beginData : Statement .beginData := ⟨⟨"BEGIN_DATA", 0x6000, 0xFFFF⟩, by decide, rfl, by decide⟩

theorem dataByte (imm8 : Byte) : Statement (.dataByte imm8) :=
  ⟨⟨"DATA_BYTE", 0x7000, 0xFF00⟩, by decide, rfl, decide_eq_true (formatB 0x7 imm8)⟩

theorem endData : Statement .endData := ⟨⟨"END_DATA", 0x8000, 0xFFFF⟩, by decide, rfl, by decide⟩

theorem sendCommand (imm8 : Byte) : Statement (.sendCommand imm8) :=
  ⟨⟨"SEND_COMMAND", 0x9000, 0xFF00⟩, by decide, rfl, decide_eq_true (formatB 0x9 imm8)⟩

theorem setPosition (row : BitVec 4) (col : BitVec 8) : Statement (.setPosition row col) := by
  refine ⟨⟨"SET_POSITION", 0xA000, 0xF000⟩, by decide, rfl, decide_eq_true ?_⟩
  refine (word_and_mask 0xA#4 0xF#4 (row ++ col) 0x000#12).trans ?_
  have h : ((row ++ col : BitVec 12) &&& 0#12) = 0#12 := BitVec.and_zero
  rw [h]
  decide

theorem setContrast (imm8 : Byte) : Statement (.setContrast imm8) :=
  ⟨⟨"SET_CONTRAST", 0xB000, 0xFF00⟩, by decide, rfl, decide_eq_true (formatB 0xB imm8)⟩

theorem invertScreen (flag : Bool) : Statement (.invertScreen flag) :=
  ⟨⟨"INVERT_SCREEN", 0xC000, 0xFFFE⟩, by decide, rfl, by cases flag <;> decide⟩

theorem sleep (flag : Bool) : Statement (.sleep flag) :=
  ⟨⟨"SLEEP", 0xD000, 0xFFFE⟩, by decide, rfl, by cases flag <;> decide⟩

end Sys2Proof.Laws.RowSelects
end

