-- ==== Sys2Proof/Machine/Assembler.lean ====
section
/-! DEFINITION. The assembly text of 30_encoding.md R97 and R98: "one statement per line, made of the mnemonic, then its
operands separated by commas. Numbers are written in decimal or 0x hexadecimal, and ; begins a comment". It has no
semantic content (D4): it only gives test programs a written form. Details the rule leaves open: log entry 19. -/

namespace Sys2Proof.Machine

/-- A space or a tab, and nothing else: a carriage return is no blank (DESIGN CHOICE, safe, log entry 19). -/
def isBlank (c : Char) : Bool := c == ' ' || c == '\t'

/-- A text without the blanks around it. -/
def trimBlanks (cs : List Char) : List Char := ((cs.dropWhile isBlank).reverse.dropWhile isBlank).reverse

/-- The value of a digit in base 10 or 16. -/
def digitValue (base : Nat) (c : Char) : Option Nat :=
  let n := c.toNat
  let v :=
    if 48 ≤ n ∧ n ≤ 57 then n - 48
    else if 65 ≤ n ∧ n ≤ 70 then n - 55
    else if 97 ≤ n ∧ n ≤ 102 then n - 87
    else base
  if v < base then some v else none

/-- The value of digits, most significant first, behind the value `acc` of those before them. -/
def digitsValue (base : Nat) : Nat → List Char → Option Nat
  | acc, [] => some acc
  | acc, c :: cs =>
    match digitValue base c with
    | some d => digitsValue base (acc * base + d) cs
    | none => none

/-- A number: decimal, or 0x and hexadecimal digits. Leading zeros are allowed, a capital 0X is not (DESIGN CHOICE, safe, log
entry 19). -/
def parseNumber : List Char → Option Nat
  | [] => none
  | '0' :: 'x' :: [] => none
  | '0' :: 'x' :: ds => digitsValue 16 0 ds
  | ds => digitsValue 10 0 ds

/-- The parts of a text between its commas; the first argument is the part begun. -/
def splitCommas : List Char → List Char → List (List Char)
  | part, [] => [part]
  | part, c :: cs => if c == ',' then part :: splitCommas [] cs else splitCommas (part ++ [c]) cs

/-- The numbers of an operand text, none of them missing. -/
def parseOperands (cs : List Char) : Option (List Nat) :=
  if trimBlanks cs = [] then some []
  else (splitCommas [] cs).mapM fun part => parseNumber (trimBlanks part)

/-- The statement of a mnemonic with its operands (R97, R98). -/
def makeStmt (name : String) (ops : List Nat) : Option Stmt :=
  match name, ops with
  | "CONFIG", [a] => some (.config a)
  | "INITIALIZE", [] => some .initialise
  | "BEGIN_CMD", [] => some .beginCmd
  | "CMD_BYTE", [c] => some (.cmdByte c)
  | "END_CMD", [] => some .endCmd
  | "BEGIN_DATA", [] => some .beginData
  | "DATA_BYTE", [d] => some (.dataByte d)
  | "END_DATA", [] => some .endData
  | "SEND_COMMAND", [c] => some (.sendCommand c)
  | "SET_POSITION", [r, c] => some (.setPosition r c)
  | "SET_CONTRAST", [l] => some (.setContrast l)
  | "INVERT_SCREEN", [f] => some (.invertScreen f)
  | "SLEEP", [f] => some (.sleep f)
  | "DATA", ds => some (.data ds)
  | "CMDS", cs => some (.cmds cs)
  | "WRITE_AT", r :: c :: ds => some (.writeAt r c ds)
  | _, _ => none

/-- The words of one line: none of them for a line that is blank or a comment, refused (`none`) if it is no statement or an
operand does not fit. -/
def assembleLine (line : List Char) : Option (List OpWord) :=
  let text := trimBlanks (line.takeWhile fun c => !(c == ';'))
  if text = [] then some []
  else
    match parseOperands (text.dropWhile fun c => !(isBlank c)) with
    | none => none
    | some ops =>
      match makeStmt (String.ofList (text.takeWhile fun c => !(isBlank c))) ops with
      | some st => assemble st
      | none => none

/-- The lines of a text; the first argument is the line begun. R97 says "one statement per line" and not what ends a line: here
the newline character alone does, so a carriage return stays in its line, which then is refused unless it stands in a comment
(DESIGN CHOICE, safe, log entry 19). -/
def splitLines : List Char → List Char → List (List Char)
  | line, [] => [line]
  | line, c :: cs => if c == '\n' then line :: splitLines [] cs else splitLines (line ++ [c]) cs

/-- The host program of an assembly text; refused as a whole if a line is (DESIGN CHOICE, safe, log entry 19). -/
def assembleText (text : String) : Option (List OpWord) :=
  ((splitLines [] text.toList).mapM assembleLine).map List.flatten

end Sys2Proof.Machine
end

