-- ==== Sys2Proof/Tests/Slice0.lean ====
section
/-! SUPPORT. Tests: the smoke tests of WellFormed, decoding of words read from the spec, one-step tests whose expected results
are those of spec/95_test_vectors.md, and a witness for the hypotheses of every statement. -/

namespace Sys2Proof.Tests

open Sys2Proof Sys2Proof.Machine

/-! ## WellFormed: an ill-formed term for each check -/

theorem test_wf_refuses_address_of_8_bits : (Stmt.config 128).wf = false ∧ (Stmt.config 127).wf = true := by decide
theorem test_wf_refuses_wide_bytes :
    (Stmt.cmdByte 256).wf = false ∧ (Stmt.dataByte 256).wf = false ∧ (Stmt.sendCommand 256).wf = false ∧
    (Stmt.setContrast 256).wf = false := by decide
theorem test_wf_refuses_wide_row : (Stmt.setPosition 16 0).wf = false ∧ (Stmt.setPosition 15 255).wf = true := by decide
theorem test_wf_refuses_wide_column : (Stmt.setPosition 0 256).wf = false := by decide
theorem test_wf_refuses_flag_2 :
    (Stmt.invertScreen 2).wf = false ∧ (Stmt.sleep 2).wf = false ∧ (Stmt.sleep 1).wf = true := by decide
theorem test_wf_refuses_empty_lists :
    (Stmt.data []).wf = false ∧ (Stmt.cmds []).wf = false ∧ (Stmt.writeAt 0 0 []).wf = false := by decide
theorem test_wf_refuses_wide_list_elements :
    (Stmt.data [0, 256]).wf = false ∧ (Stmt.cmds [256]).wf = false ∧ (Stmt.writeAt 0 0 [1, 256]).wf = false := by decide
theorem test_wf_refuses_wide_write_at : (Stmt.writeAt 16 0 [1]).wf = false ∧ (Stmt.writeAt 0 256 [1]).wf = false := by decide

/-- Bit k drives pixel k. The spec leaves the order OPEN (R15); a test needs some value. -/
def someOrder : PixelBitOrder := ⟨0, 1, 2, 3, 4, 5, 6, 7⟩

/-- The INIT_SEQ of L2.C. -/
def seqL2C : List (List Byte) := [[0xAE], [0x20, 0x02], [0xAF]]

/-- A configuration with the defaults of the spec and the values a vector names. -/
def config (cap : TxnCap) (seq : List (List Byte)) : Config :=
  { addrSet := [0x3C, 0x3D], txnCap := cap, cmdEnc := CmdEnc.default, initSeq := seq, pixelBitOrder := someOrder }

theorem test_wf_refuses_capacity_3 :
    (config (.bounded 3) []).wf = false ∧ (config (.bounded 4) []).wf = true := by decide
theorem test_wf_refuses_empty_group : (config .unbounded [[]]).wf = false := by decide
/-- L2.C: INIT_SEQ passes with TXN_CAP = 4, and a group of 3 bytes needs TXN_CAP >= 6. -/
theorem test_wf_refuses_long_group :
    (config (.bounded 4) seqL2C).wf = true ∧ (config (.bounded 4) [[1, 2, 3]]).wf = false ∧
    (config (.bounded 6) [[1, 2, 3]]).wf = true := by decide
theorem test_page_mode_is_seen :
    (config .unbounded seqL2C).selectsPageMode = true ∧ (config .unbounded [[0xAE]]).selectsPageMode = false := by decide

/-! ## Decoding, from the words of R97, L2.A and P1 to P5 -/

theorem test_decode_config : decode 0x103C = .ok (.config 0x3C) := by decide
theorem test_decode_initialize : decode 0x2000 = .ok .initialise := by decide
theorem test_decode_begin_cmd : decode 0x3000 = .ok .beginCmd := by decide
theorem test_decode_cmd_byte : decode 0x40A4 = .ok (.cmdByte 0xA4) := by decide
theorem test_decode_end_cmd : decode 0x5000 = .ok .endCmd := by decide
theorem test_decode_begin_data : decode 0x6000 = .ok .beginData := by decide
theorem test_decode_data_byte : decode 0x703C = .ok (.dataByte 0x3C) := by decide
theorem test_decode_end_data : decode 0x8000 = .ok .endData := by decide
theorem test_decode_send_command : decode 0x90AF = .ok (.sendCommand 0xAF) := by decide
theorem test_decode_set_position :
    decode 0xA77F = .ok (.setPosition 7 127) ∧ decode 0xAFFF = .ok (.setPosition 15 255) := by decide
theorem test_decode_set_contrast : decode 0xB0FF = .ok (.setContrast 255) := by decide
theorem test_decode_invert_screen : decode 0xC001 = .ok (.invertScreen true) ∧ decode 0xC000 = .ok (.invertScreen false) := by
  decide
theorem test_decode_sleep : decode 0xD001 = .ok (.sleep true) ∧ decode 0xD000 = .ok (.sleep false) := by decide

/-- The eight illegal words of L2.A. -/
theorem test_decode_illegal :
    decode 0x0000 = .error .reservedOpcode ∧ decode 0xE123 = .error .reservedOpcode ∧
    decode 0xF000 = .error .reservedOpcode ∧ decode 0x2001 = .error .mustBeZero ∧ decode 0x4100 = .error .mustBeZero ∧
    decode 0xC002 = .error .mustBeZero ∧ decode 0x1080 = .error .mustBeZero ∧ decode 0x1FFF = .error .mustBeZero := by decide

theorem test_encode_words :
    encode (.config 0x3D) = 0x103D ∧ encode (.dataByte 0x7E) = 0x707E ∧ encode (.setPosition 2 10) = 0xA20A ∧
    encode (.sleep true) = 0xD001 ∧ encode .endData = 0x8000 := by decide

/-- The rows of the table that do not give all 16 bits read the rest as zeros; a longer instruction does not exist. -/
theorem test_decode_table_word :
    decodeTableWord 16 0xA25A = some (.setPosition 2 90) ∧ decodeTableWord 16 0x1080 = none ∧
    decodeTableWord 8 0xA25A = none ∧ decodeTableWord 24 0xA25A = none := by decide

/-! ## The assembler (R97, R98) -/

theorem test_assemble_text :
    assembleText "; boot\nCONFIG 0x3C\n  INITIALIZE ; send INIT_SEQ\nSET_POSITION 2, 10\n" =
      some [0x103C, 0x2000, 0xA20A] := by decide
theorem test_assemble_refuses :
    assembleText "CONFIG 0x80" = none ∧ assembleText "SLEEP" = none ∧ assembleText "NOP" = none := by decide
/-- Log entry 19: the newline alone ends a line; a carriage return makes its line refused, unless it stands in a comment. -/
theorem test_assemble_line_end :
    assembleText "BEGIN_CMD\nEND_CMD" = some [0x3000, 0x5000] ∧ assembleText "BEGIN_CMD\r\nEND_CMD\r\n" = none ∧
    assembleText "BEGIN_CMD ;\r\nEND_CMD" = some [0x3000, 0x5000] := by decide
theorem test_assemble_write_at :
    assemble (.writeAt 2 10 [0x7E, 0x11]) = some [0xA20A, 0x6000, 0x707E, 0x7011, 0x8000] ∧
    assemble (.cmds [0xA7, 0xA6]) = some [0x3000, 0x40A7, 0x40A6, 0x5000] ∧
    assemble (.data [1, 2]) = some [0x7001, 0x7002] := by decide

/-! ## States for the tests -/

/-- The next state, if that is the outcome. -/
def nextOf : Host.Outcome State Fault Refusal → Option State
  | .next t => some t
  | .fault _ => none
  | .refused _ => none

/-- How an operation ended: STATUS, ERRLOG and the events it put on the log. -/
def seen (o : Host.Outcome State Fault Refusal) : Option (Status × BitVec 16 × List BusEvent) :=
  (nextOf o).map fun t => (t.status, t.errlog, t.log)

/-- Some acknowledges: every one ok. -/
def oks (n : Nat) : List Ack := List.replicate n .ok

/-- Every acknowledge ok up to event n of the vector (counted from 1), which is err; then ok again. -/
def errAt (n : Nat) : List Ack := oks (n - 1) ++ .err :: oks 4

/-- Just reset, with settled acknowledges. -/
def fresh (c : Config) (acks : List Ack) : State := { State.initial c with acks := acks }

/-- After CONFIG 0x3C alone. -/
def configured (c : Config) (acks : List Ack) : State :=
  { fresh c acks with cfg := { addr := 0x3C, configured := true } }

/-- The state S0 of 95_test_vectors.md, with TXN_CAP = 4. -/
def s0 (acks : List Ack) : State := { configured (config (.bounded 4) []) acks with initDone := true }

/-- S0 with the cursor known. -/
def positioned (p : BitVec 3) (c : BitVec 8) (acks : List Ack) : State :=
  { s0 acks with cur := { valid := true, page := p, col := c } }

/-- In a command frame with n bytes sent. -/
def inCmd (n : Nat) (acks : List Ack) : State := { s0 acks with frame := .cmd, txn.count := n }

/-- In a data frame of page p from column c0, the cursor now at column c. -/
def inData (p : BitVec 3) (c0 c : BitVec 8) (acks : List Ack) : State :=
  { positioned p c acks with frame := .data, txn := { count := 1 + (c.toNat - c0.toNat), col0 := c0 } }

/-- `B78` of the vectors. -/
def b78 : BusEvent := .beginEv 0x78

/-! ## One step, from 95_test_vectors.md -/

/-- L2.B, rows 1 and 3. -/
theorem test_config_accepts : seen (exec (.config 0x3C) (fresh (config .unbounded []) [])) = some (.ok, 0, []) := by decide
theorem test_config_refuses_78 :
    seen (exec (.config 0x78) (fresh (config .unbounded []) [])) = some (.error .config, 0x0008, []) := by decide

/-- L2.C, all ok and event 7 err. -/
theorem test_initialize_sends_init_seq :
    seen (exec .initialise (configured (config (.bounded 4) seqL2C) (oks 14))) = some (.ok, 0,
      [b78, .byteEv 0x00, .byteEv 0xAE, .endEv, b78, .byteEv 0x00, .byteEv 0x20, .byteEv 0x00, .byteEv 0x02, .endEv,
       b78, .byteEv 0x00, .byteEv 0xAF, .endEv]) := by decide
theorem test_initialize_stops_at_event_7 :
    seen (exec .initialise (configured (config (.bounded 4) seqL2C) (errAt 7))) = some (.error .transport, 0x0200,
      [b78, .byteEv 0x00, .byteEv 0xAE, .endEv, b78, .byteEv 0x00, .byteEv 0x20, .endEv]) := by decide

/-- L2.D: BEGIN_CMD, and BEGIN_CMD with the Begin acknowledge err. -/
theorem test_begin_cmd_opens : seen (exec .beginCmd (s0 (oks 1))) = some (.ok, 0, [b78]) := by decide
theorem test_begin_cmd_unacknowledged :
    seen (exec .beginCmd (s0 (errAt 1))) = some (.error .transport, 0x0200, [b78, .endEv]) := by decide

/-- L2.D: TXN_CAP = 4 and a third command byte; the 0x00 of CMD_BYTE 0x40 unacknowledged. -/
theorem test_cmd_byte_full : seen (exec (.cmdByte 3) (inCmd 4 (oks 2))) = some (.error .full, 0x0100, []) := by decide
theorem test_cmd_byte_control_unacknowledged :
    seen (exec (.cmdByte 0x40) (inCmd 0 (errAt 1))) = some (.error .transport, 0x0200, [.byteEv 0x00, .endEv]) := by decide

/-- L2.D: an empty command frame cannot be closed; one with a byte can. -/
theorem test_end_cmd_empty : seen (exec .endCmd (inCmd 0 (oks 1))) = some (.error .frame, 0x0020, []) := by decide
theorem test_end_cmd_closes :
    (nextOf (exec .endCmd (inCmd 2 (oks 1)))).map (fun t => (t.frame, t.txn.count, t.log)) = some (.idle, 0, [.endEv]) := by
  decide

/-- L2.E: BEGIN_DATA without a cursor; its 0x40 unacknowledged. -/
theorem test_begin_data_without_cursor :
    seen (exec .beginData (s0 (oks 2))) = some (.error .cursor, 0x0080, []) := by decide
theorem test_begin_data_control_unacknowledged :
    seen (exec .beginData (positioned 3 10 (errAt 2))) =
      some (.error .transport, 0x0200, [b78, .byteEv 0x40, .endEv]) := by decide

/-- L2.E: column 127 is written, column 128 clips; a failed byte makes its whole transaction Unknown (394, 395). -/
theorem test_data_byte_right_edge :
    (nextOf (exec (.dataByte 2) (inData 0 126 127 (oks 1)))).map (fun t => (t.status, t.cur.col, t.disp)) =
      some (.ok, 128, [(127, 2)]) ∧
    seen (exec (.dataByte 3) (inData 0 126 128 (oks 1))) = some (.clipped, 0, []) := by decide
theorem test_data_byte_unacknowledged :
    (nextOf (exec (.dataByte 0x22) { inData 3 10 11 (errAt 1) with disp := [(394, 0x11), (395, 7), (396, 9)] })).map
      (fun t => (t.frame, t.cur.valid, t.disp, t.log)) = some (.idle, false, [(396, 9)], [.byteEv 0x22, .endEv]) := by decide

/-- L2.E: END_DATA clears the cursor; with its End unacknowledged the cell it covers is Unknown. -/
theorem test_end_data_closes :
    (nextOf (exec .endData (inData 0 126 128 (oks 1)))).map (fun t => (t.frame, t.cur, t.log)) =
      some (.idle, { valid := false, page := 0, col := 128 }, [.endEv]) := by decide
theorem test_end_data_unacknowledged :
    (nextOf (exec .endData { inData 3 10 11 (errAt 1) with disp := [(394, 0x11)] })).map (fun t => (t.frame, t.disp, t.log)) =
      some (.idle, [], [.endEv]) := by decide

/-- L1.9. -/
theorem test_send_command :
    seen (exec (.sendCommand 0xAE) (s0 (oks 4))) = some (.ok, 0, [b78, .byteEv 0x00, .byteEv 0xAE, .endEv]) := by decide

/-- L2.F: SET_POSITION 2, 90, and SET_POSITION 1, 1 with event 5 err. -/
theorem test_set_position :
    (nextOf (exec (.setPosition 2 90) (s0 (oks 12)))).map (fun t => (t.status, t.cur, t.log)) =
      some (.ok, { valid := true, page := 2, col := 90 },
        [b78, .byteEv 0x00, .byteEv 0xB2, .endEv, b78, .byteEv 0x00, .byteEv 0x0A, .endEv,
         b78, .byteEv 0x00, .byteEv 0x15, .endEv]) := by decide
theorem test_set_position_second_begin_unacknowledged :
    seen (exec (.setPosition 1 1) (s0 (errAt 5))) = some (.error .transport, 0x0200,
      [b78, .byteEv 0x00, .byteEv 0xB1, .endEv, b78, .endEv]) := by decide

/-- L2.G: SET_CONTRAST 255, and SET_CONTRAST 0x10 with event 3 err. -/
theorem test_set_contrast :
    seen (exec (.setContrast 255) (s0 (oks 6))) =
      some (.ok, 0, [b78, .byteEv 0x00, .byteEv 0x81, .byteEv 0x00, .byteEv 0xFF, .endEv]) := by decide
theorem test_set_contrast_event_3_unacknowledged :
    seen (exec (.setContrast 0x10) (s0 (errAt 3))) =
      some (.error .transport, 0x0200, [b78, .byteEv 0x00, .byteEv 0x81, .endEv]) := by decide

/-- L2.G, L1.6. -/
theorem test_invert_screen :
    seen (exec (.invertScreen true) (s0 (oks 4))) = some (.ok, 0, [b78, .byteEv 0x00, .byteEv 0xA7, .endEv]) ∧
    seen (exec (.invertScreen false) (s0 (oks 4))) = some (.ok, 0, [b78, .byteEv 0x00, .byteEv 0xA6, .endEv]) := by decide
theorem test_sleep :
    seen (exec (.sleep true) (s0 (oks 4))) = some (.ok, 0, [b78, .byteEv 0x00, .byteEv 0xAE, .endEv]) ∧
    seen (exec (.sleep false) (s0 (oks 4))) = some (.ok, 0, [b78, .byteEv 0x00, .byteEv 0xAF, .endEv]) := by decide

/-- The priority cases of L2.F. -/
theorem test_priority_of_causes :
    seen (exec (.setPosition 9 200) (fresh (config .unbounded []) [])) = some (.error .config, 0x0008, []) ∧
    seen (exec (.setPosition 9 200) (configured (config .unbounded []) [])) = some (.error .notInit, 0x0010, []) ∧
    seen (exec (.setPosition 9 200) (inCmd 0 [])) = some (.error .frame, 0x0020, []) ∧
    seen (exec (.setPosition 8 0) (s0 [])) = some (.error .range, 0x0040, []) := by decide

/-- The word that a step fetches, right after reset; an illegal word only raises ERR_ILLEGAL (L2.A). -/
theorem test_step_after_reset :
    (nextOf (step (State.reset.withFetchWord 16 0x103C))).map (fun t => (t.status, t.cfg, t.pc)) =
      some (.ok, { addr := 0x3C, configured := true }, 1) ∧
    (nextOf (step (State.reset.withFetchWord 16 0x7005))).map (fun t => (t.status, t.errlog, t.pc)) =
      some (.error .frame, 0x0020, 1) ∧
    (nextOf (step (State.reset.withFetchWord 16 0xE123))).map (fun t => (t.status, t.errlog, t.pc)) =
      some (.error .illegal, 0x0004, 1) := by decide
theorem test_with_fetch_word_past_the_program :
    (nextOf (step ({ s0 (oks 4) with pc := 2, program := [0x2000] }.withFetchWord 16 0x90AE))).map (fun t => (t.status, t.pc)) =
      some (.ok, 3) := by decide

/-! ## Observations -/

/-- P3: MemRead(4, 1) faults and MemRead(5, 1) = 0xBB. -/
theorem test_mem_read :
    memRead 5 { s0 [] with disp := [(5, 0xBB)] } = .ok 0xBB ∧
    memRead 4 { s0 [] with disp := [(5, 0xBB)] } = .error .unknownCell ∧
    memRead 1024 { s0 [] with disp := [(5, 0xBB)] } = .error .noSuchCell := by decide

/-- The data part of L2.E row 7: values like the control bytes are plain data. -/
theorem test_frames_of_log :
    framesOf [b78, .byteEv 0x00, .byteEv 0xB0, .endEv, b78, .byteEv 0x40, .byteEv 0x40, .byteEv 0x00, .endEv] =
      some [(0x78, .command [0xB0]), (0x78, .data [0x40, 0x00])] ∧
    dataBytesOf [b78, .byteEv 0x40, .byteEv 0x40, .byteEv 0x00, .endEv] = some [0x40, 0x00] ∧
    framesOf [b78] = none ∧ framesOf [.endEv] = none ∧
    framesOf [b78, .byteEv 0x00, .endEv] = some [(0x78, .aborted [0x00])] := by decide

/-- R99 and log entry 22: an empty payload and one that stops behind a 0x00 are aborted; one of neither form is foreign. -/
theorem test_frame_kinds :
    frameOf [] = .aborted [] ∧ frameOf [0x00, 0xA4, 0x00] = .aborted [0x00, 0xA4, 0x00] ∧
    frameOf [0x80, 0xA4] = .foreign [0x80, 0xA4] ∧ frameOf [0x00, 0xA4, 0x01] = .foreign [0x00, 0xA4, 0x01] := by decide

/-- With the order of these tests, pixel 0 of 0x01 is lit and pixel 1 is not. -/
theorem test_read_pixel :
    readPixel 0 5 0 { s0 [] with disp := [(5, 0x01)] } = .ok true ∧
    readPixel 0 5 1 { s0 [] with disp := [(5, 0x01)] } = .ok false := by decide

/-- Log entry 21: column 127 is on the grid, column 128 of page 0 is not the first column of page 1. -/
theorem test_read_pixel_off_grid :
    readPixel 0 127 0 { s0 [] with disp := [(127, 0x01), (128, 0x01)] } = .ok true ∧
    readPixel 0 128 0 { s0 [] with disp := [(127, 0x01), (128, 0x01)] } = .error .noSuchCell := by decide

/-- R23, R27 and R28: the registers as words. -/
theorem test_register_words :
    cfgWord { addr := 0x3C, configured := true } = 0xBC ∧ curWord { valid := true, page := 7, col := 128 } = 0x8780 ∧
    statusCode .clipped = 1 ∧ statusCode (.error .transport) = 9 ∧ frameCode .data = 2 := by decide

/-! ## Witnesses: concrete states and operands that meet the hypotheses of each statement, at the bounds of each clause -/

theorem test_witness_OnlyItsOwnWord : decode 0xAFFF = .ok (.setPosition 15 255) := by decide
theorem test_witness_DecoderAgrees :
    (⟨"SLEEP", 0xD000, 0xFFFE⟩ : Row) ∈ opcodeTable ∧ (⟨"SLEEP", 0xD000, 0xFFFE⟩ : Row).selects 0xD001 = true := by decide
theorem test_witness_AssembledWords : assemble (.cmds [0xFF]) = some [0x3000, 0x40FF, 0x5000] := by decide

theorem test_witness_Malformed_capacity : (config (.bounded 3) []).txnCap = .bounded 3 ∧ 3 < 4 := by decide
theorem test_witness_Malformed_empty_group : [] ∈ (config .unbounded [[0xAE], []]).initSeq := by decide
theorem test_witness_Malformed_long_group :
    [1, 2, 3] ∈ (config (.bounded 5) [[1, 2, 3]]).initSeq ∧ (config (.bounded 5) [[1, 2, 3]]).txnCap = .bounded 5 ∧
    5 < 2 * [1, 2, 3].length := by decide
theorem test_witness_Malformed_accepted :
    (∀ n, (config (.bounded 4) seqL2C).txnCap = .bounded n → 4 ≤ n ∧ ∀ g ∈ (config (.bounded 4) seqL2C).initSeq,
      2 * g.length ≤ n) ∧ ∀ g ∈ (config (.bounded 4) seqL2C).initSeq, g ≠ [] :=
  ⟨fun n h => by injection h with h; subst h; decide, by decide⟩

theorem test_witness_BlockReset : ({ inCmd 2 [] with resetReq := some .block } : State).resetReq = some .block := by decide
theorem test_witness_PowerOnReset :
    ({ inCmd 2 [] with resetReq := some .powerOn } : State).resetReq = some .powerOn := by decide

/-- A state about to run one word. -/
def about (w : OpWord) (s : State) : State := { s with program := [w] }

theorem test_witness_StepRuns :
    (about 0x90AE (s0 (oks 4))).resetReq = none ∧
    (about 0x90AE (s0 (oks 4))).program[(about 0x90AE (s0 (oks 4))).pc]? = some 0x90AE ∧
    decode 0x90AE = .ok (.sendCommand 0xAE) ∧ ∃ t, exec (.sendCommand 0xAE) (about 0x90AE (s0 (oks 4))) = .next t :=
  ⟨rfl, rfl, by decide, _, rfl⟩
/-- The fault clause: only in a state no run reaches. -/
theorem test_witness_StepRuns_fault :
    let s := about 0x7001 (inData 7 127 129 (oks 1))
    s.resetReq = none ∧ s.program[s.pc]? = some 0x7001 ∧ decode 0x7001 = .ok (.dataByte 1) ∧
    exec (.dataByte 1) s = .fault .noSuchCell := ⟨rfl, rfl, by decide, rfl⟩
theorem test_witness_IllegalWord :
    (about 0x1080 (s0 [])).resetReq = none ∧ (about 0x1080 (s0 [])).program[(about 0x1080 (s0 [])).pc]? = some 0x1080 ∧
    hasNonzeroField 0x1080 ∧ hasReservedOpcode 0xE123 := by decide
theorem test_witness_RunEnds : (s0 []).resetReq = none ∧ (s0 []).program.length ≤ (s0 []).pc := by decide
theorem test_witness_HostIndexAdvances :
    (about 0x3000 (s0 (oks 1))).resetReq = none ∧ ∃ t, step (about 0x3000 (s0 (oks 1))) = .next t := ⟨rfl, _, rfl⟩
theorem test_witness_EveryOperationReturns :
    RegInv (about 0x7001 (inData 7 125 127 (oks 1))) ∧ (about 0x7001 (inData 7 125 127 (oks 1))).resetReq = none ∧
    (about 0x7001 (inData 7 125 127 (oks 1))).pc < (about 0x7001 (inData 7 125 127 (oks 1))).program.length := by decide

theorem test_witness_Config :
    (s0 []).cfg.configured = true ∧ (fresh (config .unbounded []) []).cfg.configured = false ∧
    (0x3E : Addr7) ∉ (fresh (config .unbounded []) []).config.addrSet ∧
    (0x3D : Addr7) ∈ (fresh (config .unbounded []) []).config.addrSet := by decide

/-- The states on which the checks of the operations below fail: not configured, configured only, in each frame. -/
theorem test_witness_checks :
    (fresh (config .unbounded []) []).cfg.configured = false ∧ (fresh (config .unbounded []) []).frame ≠ .cmd ∧
    (fresh (config .unbounded []) []).frame ≠ .data ∧
    ((configured (config .unbounded []) []).cfg.configured = true ∧
      (configured (config .unbounded []) []).initDone = false) ∧
    ((inCmd 0 []).cfg.configured = true ∧ (inCmd 0 []).initDone = true ∧ (inCmd 0 []).frame ≠ .idle) ∧
    ((inData 0 0 0 []).cfg.configured = true ∧ (inData 0 0 0 []).initDone = true ∧ (inData 0 0 0 []).frame ≠ .idle) := by
  decide
theorem test_witness_Initialize :
    let s := configured (config (.bounded 4) seqL2C) (oks 14)
    s.cfg.configured = true ∧ s.frame = .idle ∧ acked 14 s ∧
    (groupsEvents (addrByte s.cfg.addr) s.config.initSeq).length = 14 := by decide
theorem test_witness_Initialize_fails :
    let s := configured (config (.bounded 4) seqL2C) (errAt 14)
    s.cfg.configured = true ∧ s.frame = .idle ∧ 13 < (groupsEvents (addrByte s.cfg.addr) s.config.initSeq).length ∧
    failsAt 13 s := by decide
theorem test_witness_Initialize_empty :
    let s := configured (config .unbounded []) []
    s.cfg.configured = true ∧ s.frame = .idle ∧
    acked (groupsEvents (addrByte s.cfg.addr) s.config.initSeq).length s := by decide
theorem test_witness_BeginCmd :
    ((s0 (oks 1)).cfg.configured = true ∧ (s0 (oks 1)).frame = .idle ∧ acked 1 (s0 (oks 1))) ∧ failsAt 0 (s0 (errAt 1)) := by
  decide
theorem test_witness_CmdByte_full :
    (inCmd 3 []).frame = .cmd ∧ (inCmd 3 []).config.txnCap.admits ((inCmd 3 []).txn.count + 2) = false := by decide
theorem test_witness_CmdByte :
    (inCmd 2 (oks 2)).frame = .cmd ∧ (inCmd 2 (oks 2)).config.txnCap.admits ((inCmd 2 (oks 2)).txn.count + 2) = true ∧
    acked 2 (inCmd 2 (oks 2)) ∧ failsAt 0 (inCmd 2 (errAt 1)) ∧ failsAt 1 (inCmd 2 (errAt 2)) := by decide
theorem test_witness_EndCmd :
    (inCmd 0 []).txn.count = 0 ∧ ((inCmd 2 (oks 1)).frame = .cmd ∧ (inCmd 2 (oks 1)).txn.count ≠ 0 ∧
    acked 1 (inCmd 2 (oks 1))) ∧ failsAt 0 (inCmd 2 (errAt 1)) := by decide
theorem test_witness_BeginData_cursor :
    (s0 []).cfg.configured = true ∧ (s0 []).initDone = true ∧ (s0 []).frame = .idle ∧ (s0 []).cur.valid = false := by decide
theorem test_witness_BeginData :
    let s := positioned 7 127 (oks 2)
    (s.cfg.configured = true ∧ s.initDone = true ∧ s.frame = .idle ∧ s.cur.valid = true ∧ acked 2 s) ∧
    failsAt 0 (positioned 7 127 (errAt 1)) ∧ failsAt 1 (positioned 7 127 (errAt 2)) := by decide
theorem test_witness_DataByte_clips :
    (inData 7 126 128 []).cur.col.toNat ≤ 128 ∧ (inData 7 126 128 []).frame = .data ∧
    (inData 7 126 128 []).cur.col.toNat = 128 := by decide
theorem test_witness_DataByte_full :
    let s := inData 0 0 3 []
    s.cur.col.toNat ≤ 128 ∧ s.frame = .data ∧ s.cur.col.toNat ≠ 128 ∧ s.config.txnCap.admits (s.txn.count + 1) = false := by
  decide
theorem test_witness_DataByte :
    let s := inData 7 125 127 (oks 1)
    (s.cur.col.toNat ≤ 128 ∧ s.frame = .data ∧ s.cur.col.toNat ≠ 128 ∧
      s.config.txnCap.admits (s.txn.count + 1) = true ∧ acked 1 s) ∧ failsAt 0 (inData 7 125 127 (errAt 1)) := by decide
theorem test_witness_EndData :
    (inData 0 0 2 (oks 1)).frame = .data ∧ acked 1 (inData 0 0 2 (oks 1)) ∧ failsAt 0 (inData 0 0 2 (errAt 1)) := by decide
theorem test_witness_SendCommand :
    ((s0 (oks 4)).cfg.configured = true ∧ (s0 (oks 4)).frame = .idle ∧ acked 4 (s0 (oks 4))) ∧ failsAt 0 (s0 (errAt 1)) ∧
    failsAt 3 (s0 (errAt 4)) := by decide
theorem test_witness_SetPosition_range :
    (s0 []).cfg.configured = true ∧ (s0 []).initDone = true ∧ (s0 []).frame = .idle ∧
    ((8 : BitVec 4).toNat > 7 ∨ (0 : BitVec 8).toNat > 127) ∧ ((0 : BitVec 4).toNat > 7 ∨ (128 : BitVec 8).toNat > 127) := by
  decide
theorem test_witness_SetPosition :
    ((s0 (oks 12)).cfg.configured = true ∧ (s0 (oks 12)).initDone = true ∧ (s0 (oks 12)).frame = .idle ∧
      (7 : BitVec 4).toNat ≤ 7 ∧ (127 : BitVec 8).toNat ≤ 127 ∧ acked 12 (s0 (oks 12))) ∧
    failsAt 0 (s0 (errAt 1)) ∧ failsAt 11 (s0 (errAt 12)) := by decide
theorem test_witness_SetContrast :
    ((s0 (oks 6)).cfg.configured = true ∧ (s0 (oks 6)).initDone = true ∧ (s0 (oks 6)).frame = .idle ∧
      acked 6 (s0 (oks 6))) ∧ failsAt 0 (s0 (errAt 1)) ∧ failsAt 5 (s0 (errAt 6)) := by decide
/-- Also of SleepSendsDisplayOffOrOn. -/
theorem test_witness_InvertScreen :
    ((s0 (oks 4)).cfg.configured = true ∧ (s0 (oks 4)).initDone = true ∧ (s0 (oks 4)).frame = .idle ∧
      acked 4 (s0 (oks 4))) ∧ failsAt 0 (s0 (errAt 1)) ∧ failsAt 3 (s0 (errAt 4)) := by decide

theorem test_witness_FirstCause_config :
    causeApplies (.setPosition 9 200) (fresh (config .unbounded []) []) .config = true ∧
    (∀ e, causeApplies (.setPosition 9 200) (fresh (config .unbounded []) []) e = true →
      (errorCode .config).toNat ≤ (errorCode e).toNat) :=
  ⟨by decide, by intro e; cases e <;> decide⟩
theorem test_witness_FirstCause_full :
    causeApplies (.dataByte 1) (inData 0 0 3 []) .full = true ∧
    (∀ e, causeApplies (.dataByte 1) (inData 0 0 3 []) e = true → (errorCode .full).toNat ≤ (errorCode e).toNat) ∧
    ¬ clips (.dataByte 1) (inData 0 0 3 []) :=
  ⟨by decide, by intro e; cases e <;> decide, by decide⟩
theorem test_witness_NoCause :
    RegInv (s0 (oks 12)) ∧ (∀ e, causeApplies (.setPosition 7 127) (s0 (oks 12)) e = true →
      e = .full ∧ clips (.setPosition 7 127) (s0 (oks 12))) ∧
    acked (12 + (groupsEvents (addrByte (s0 (oks 12)).cfg.addr) (s0 (oks 12)).config.initSeq).length) (s0 (oks 12)) :=
  ⟨by decide, by intro e; cases e <;> decide, by decide⟩
theorem test_witness_NoCause_clips :
    RegInv (inData 7 125 128 (oks 12)) ∧ (∀ e, causeApplies (.dataByte 1) (inData 7 125 128 (oks 12)) e = true →
      e = .full ∧ clips (.dataByte 1) (inData 7 125 128 (oks 12))) ∧ acked 12 (inData 7 125 128 (oks 12)) :=
  ⟨by decide, by intro e; cases e <;> decide, by decide⟩

theorem test_witness_Errlog_ok :
    ∃ t, step (about 0x3000 (s0 (oks 1))) = .next t ∧ (t.status = .ok ∨ t.status = .clipped) := ⟨_, rfl, by decide⟩
theorem test_witness_Errlog_error :
    ∃ t, step (about 0x8000 (s0 [])) = .next t ∧ t.status = .error .frame := ⟨_, rfl, by decide⟩
theorem test_witness_ErrlogReserved :
    ErrlogInv (about 0x8000 { s0 [] with errlog := 0x03FC }) ∧
    ∃ t, step (about 0x8000 { s0 [] with errlog := 0x03FC }) = .next t := ⟨by decide, _, rfl⟩
theorem test_witness_TransportError :
    ∃ t, exec .beginCmd (s0 (errAt 1)) = .next t ∧ t.status = .error .transport := ⟨_, rfl, by decide⟩
theorem test_witness_NothingRunsBeforeConfig :
    RegInv (fresh (config .unbounded []) []) ∧ (fresh (config .unbounded []) []).cfg.configured = false ∧
    ∀ a, Instr.initialise ≠ .config a := ⟨by decide, by decide, by intro a h; cases h⟩

theorem test_witness_Passthroughs :
    (∃ f, Instr.sleep true = .sleep f) ∧ (s0 (oks 4)).frame = .idle ∧ (s0 (oks 4)).txn.count = 0 ∧
    ∃ t, exec (.sleep true) (s0 (oks 4)) = .next t := ⟨⟨_, rfl⟩, rfl, rfl, _, rfl⟩
theorem test_witness_CommandFramePrimitives :
    (∃ t, exec .beginCmd (s0 (oks 1)) = .next t) ∧ (∃ t, exec (.cmdByte 1) (inCmd 0 (oks 2)) = .next t) ∧
    ∃ t, exec .endCmd (inCmd 2 (oks 1)) = .next t := ⟨⟨_, rfl⟩, ⟨_, rfl⟩, _, rfl⟩
theorem test_witness_SetPositionFrame :
    (∃ t, exec (.setPosition 7 127) (s0 (oks 12)) = .next t) ∧
    ∃ t, exec (.setPosition 8 0) (s0 []) = .next t ∧ t.status ≠ .ok := ⟨⟨_, rfl⟩, _, rfl, by decide⟩
theorem test_witness_Lifecycle :
    (∃ t, exec (.config 0x3D) (fresh (config .unbounded []) []) = .next t) ∧
    ∃ t, exec .initialise (configured (config (.bounded 4) seqL2C) (oks 14)) = .next t := ⟨⟨_, rfl⟩, _, rfl⟩
theorem test_witness_DataByteFrame :
    (∃ t, exec (.dataByte 1) (inData 7 125 127 (oks 1)) = .next t ∧ t.status = .ok) ∧
    (∃ t, exec (.dataByte 1) (inData 7 125 127 (errAt 1)) = .next t ∧ t.status = .error .transport) ∧
    ∃ t, exec (.dataByte 1) (inData 6 126 128 []) = .next t ∧ t.status ≠ .ok ∧ t.status ≠ .error .transport :=
  ⟨⟨_, rfl, by decide⟩, ⟨_, rfl, by decide⟩, _, rfl, by decide⟩
theorem test_witness_DataFrameBrackets :
    (∃ t, exec .beginData (positioned 7 127 (oks 2)) = .next t) ∧
    (∃ t, exec .endData (inData 7 125 128 (oks 1)) = .next t ∧ t.status ≠ .error .transport) ∧
    ∃ t, exec .endData (inData 7 125 128 (errAt 1)) = .next t := ⟨⟨_, rfl⟩, ⟨_, rfl, by decide⟩, _, rfl⟩

theorem test_witness_CommandBytes :
    touchesDisplay (.cmdByte 0xA5) = false ∧ ∃ t, exec (.cmdByte 0xA5) (inCmd 0 (oks 2)) = .next t := ⟨rfl, _, rfl⟩
theorem test_witness_AddressNeverChanges :
    (about 0x103D (s0 [])).resetReq = none ∧ (about 0x103D (s0 [])).cfg.configured = true ∧
    ∃ t, step (about 0x103D (s0 [])) = .next t := ⟨rfl, rfl, _, rfl⟩
theorem test_witness_OnlyInitialize :
    (Instr.beginCmd ≠ .initialise ∧ ∃ t, exec .beginCmd (s0 (oks 1)) = .next t) ∧
    (∃ t, exec .initialise (configured (config (.bounded 4) seqL2C) (oks 14)) = .next t ∧ t.status = .ok) ∧
    ∃ t, exec .initialise (configured (config (.bounded 4) seqL2C) (errAt 14)) = .next t ∧ t.status = .error .transport :=
  ⟨⟨by decide, _, rfl⟩, ⟨_, rfl, by decide⟩, _, rfl, by decide⟩
theorem test_witness_CursorIsKnown :
    (∃ t, exec (.setPosition 7 127) (s0 (oks 12)) = .next t ∧ (s0 (oks 12)).cur.valid = false ∧ t.cur.valid = true) ∧
    (∃ t, exec .beginCmd (positioned 0 0 (oks 1)) = .next t ∧ t.status = .ok ∧
      needsFrame .beginCmd = some .idle ∧ Instr.beginCmd ≠ .beginData ∧ ∀ r c, Instr.beginCmd ≠ .setPosition r c) ∧
    ∃ t, exec .endData (inData 7 125 128 (oks 1)) = .next t ∧ t.status = .ok :=
  ⟨⟨_, rfl, by decide⟩, ⟨_, rfl, by decide, rfl, by decide, fun _ _ h => by cases h⟩, _, rfl, by decide⟩
theorem test_witness_Composite :
    isComposite (.sleep false) = true ∧
    (∃ t, exec (.sleep false) (s0 (oks 4)) = .next t ∧ (s0 (oks 4)).frame = .idle) ∧
    ∃ t, exec (.sleep false) (inCmd 2 []) = .next t ∧ (inCmd 2 []).frame ≠ .idle ∧ (inCmd 2 []).cfg.configured = true ∧
      (needsInit (.sleep false) = true → (inCmd 2 []).initDone = true) :=
  ⟨rfl, ⟨_, rfl, by decide⟩, _, rfl, by decide⟩
theorem test_witness_LogOnlyGrows :
    ∃ t, step (about 0x90AE (s0 (oks 4))) = .next t ∧ .beginEv 0x78 ∈ t.log := ⟨_, rfl, by decide⟩
theorem test_witness_DisplayNeverInfluences : ∃ t, exec (.dataByte 1) (inData 7 125 127 (oks 1)) = .next t := ⟨_, rfl⟩
theorem test_witness_CellReads :
    1023 < 1024 ∧ (∃ t, memWrite 1023 7 (s0 []) = .ok t) ∧ 1024 ≤ 1024 ∧ memWrite 1024 7 (s0 []) = .error .noSuchCell :=
  ⟨by decide, ⟨_, rfl⟩, by decide, rfl⟩
theorem test_witness_UnknownCells : 1023 < 1024 ∧ (s0 []).disp.read 1023 = none := by decide

theorem test_witness_PositionedByte :
    (7 : BitVec 4).toNat ≤ 7 ∧ (127 : BitVec 8).toNat ≤ 127 ∧ (s0 (oks 15)).config.wf = true ∧
    (s0 (oks 15)).cfg.configured = true ∧ (s0 (oks 15)).initDone = true ∧ (s0 (oks 15)).frame = .idle ∧
    acked 15 (s0 (oks 15)) := by decide
theorem test_witness_CmdsOfOneByte :
    (s0 (oks 4)).config.wf = true ∧ (s0 (oks 4)).cfg.configured = true ∧ (s0 (oks 4)).frame = .idle ∧
    acked 4 (s0 (oks 4)) := by decide
theorem test_witness_LogIsReadBack : ([0xAE] : List Byte) ≠ [] := by decide

theorem test_witness_RegInv :
    RegInv (about 0x7001 (inData 7 125 127 (oks 1))) ∧ ∃ t, step (about 0x7001 (inData 7 125 127 (oks 1))) = .next t :=
  ⟨by decide, _, rfl⟩
theorem test_witness_LogInv :
    let s := about 0x7001 { inData 7 125 127 (oks 1) with log := [b78, .byteEv 0x40, .byteEv 1, .byteEv 2] }
    LogInv s ∧ (s.resetReq = some .block → s.frame = .idle) ∧ ∃ t, step s = .next t := ⟨by decide, by decide, _, rfl⟩
theorem test_witness_DisplayCanonical :
    let s := about 0x7001 { inData 7 125 127 (oks 1) with disp := [(0, 1), (1021, 5)] }
    s.disp.wf ∧ ∃ t, step s = .next t := ⟨by decide, _, rfl⟩

end Sys2Proof.Tests
end

section
/-! SUPPORT. What one step can do: a reset, or a word and then `pc + 1`. The word's part is `Did` of Sys2Proof/Laws/Exec.lean,
or ERR_ILLEGAL. The statements about every step are proved by cases on it. -/

namespace Sys2Proof.Machine

/-- Every next state the word at `pc` can bring about, before the host index moves on (R92 to R94). -/
inductive WordDid (s : State) : State → Prop
  /-- An illegal word (R92, R93). -/
  | illegal : WordDid s (rejected .illegal s)
  /-- The operation the word decodes to. -/
  | ran (i : Instr) (t : State) (h : Did s i t) : WordDid s t

theorem runWord_did {w : OpWord} {s t : State} (h : runWord w s = .next t) : WordDid s t := by
  unfold runWord at h
  split at h
  · exact .ran _ t (exec_did _ s t h)
  · injection h with h
    exact h ▸ .illegal

theorem thenAdvance_eq_next {o : Host.Outcome State Fault Refusal} {t : State} (h : thenAdvance o = .next t) :
    ∃ u, o = .next u ∧ t = advancePc u := by
  cases o with
  | next u =>
    injection h with h
    exact ⟨u, rfl, h.symm⟩
  | fault f => nomatch h
  | refused r => nomatch h

theorem step_of_reset {s : State} {k : ResetKind} (h : s.resetReq = some k) : step s = .next (takeReset k s) := by
  simp only [step, h]

theorem step_of_word {s : State} {w : OpWord} (h0 : s.resetReq = none) (hw : s.program[s.pc]? = some w) :
    step s = thenAdvance (runWord w s) := by
  simp only [step, h0, fetch, hw]

theorem step_of_no_word {s : State} (h0 : s.resetReq = none) (hw : s.program[s.pc]? = none) :
    step s = .fault .runEnded := by
  simp only [step, h0, fetch, hw]

/-- With no reset asked for, a step that answers a next state has run a word and moved on (R21). -/
theorem step_did {s t : State} (h0 : s.resetReq = none) (h : step s = .next t) :
    ∃ u, WordDid s u ∧ t = advancePc u := by
  cases hw : s.program[s.pc]? with
  | some w =>
    rw [step_of_word h0 hw] at h
    obtain ⟨u, hu, ht⟩ := thenAdvance_eq_next h
    exact ⟨u, runWord_did hu, ht⟩
  | none =>
    rw [step_of_no_word h0 hw] at h
    nomatch h

/-- Everything a step that answers a next state can have done (R21, R230, R231). -/
theorem step_cases {s t : State} (h : step s = .next t) :
    (∃ k, t = takeReset k s) ∨ ∃ u, WordDid s u ∧ t = advancePc u := by
  cases hk : s.resetReq with
  | some k =>
    rw [step_of_reset hk] at h
    injection h with h
    exact .inl ⟨k, h.symm⟩
  | none => exact .inr (step_did hk h)

/-! ### What a reset leaves (R230, R231) -/

section takeReset
variable (k : ResetKind) (s : State)

@[simp] theorem takeReset_cfg : (takeReset k s).cfg = { addr := 0, configured := false } := by cases k <;> rfl
@[simp] theorem takeReset_initDone : (takeReset k s).initDone = false := by cases k <;> rfl
@[simp] theorem takeReset_frame : (takeReset k s).frame = .idle := by cases k <;> rfl
@[simp] theorem takeReset_txn : (takeReset k s).txn = { count := 0, col0 := 0 } := by cases k <;> rfl
@[simp] theorem takeReset_cur : (takeReset k s).cur = { valid := false, page := 0, col := 0 } := by cases k <;> rfl
@[simp] theorem takeReset_errlog : (takeReset k s).errlog = 0 := by cases k <;> rfl
@[simp] theorem takeReset_config : (takeReset k s).config = s.config := by cases k <;> rfl

end takeReset

/-! ### No operation is refused -/

/-- The outcome is no refusal: every operation of the table has a meaning (R94). -/
def NotRefused (o : Host.Outcome State Fault Refusal) : Prop := ∀ r, o ≠ .refused r

theorem notRefused_next (s : State) : NotRefused (.next s) := fun _ h => nomatch h

theorem notRefused_fault (f : Fault) : NotRefused (.fault f) := fun _ h => nomatch h

theorem notRefused_complete (st : Status) (a : Attempt) : NotRefused (a.complete st) := by
  cases a with
  | going s => exact notRefused_next _
  | ended s => exact notRefused_next s

/-- A check in front of an operation refuses nothing: where it fails, the operation ends with an error (R201). -/
theorem notRefused_check {p : Prop} [Decidable p] {e : ErrorCode} {s : State} {o : Host.Outcome State Fault Refusal}
    (h : NotRefused o) : NotRefused (if p then reject e s else o) := by
  split
  · exact notRefused_next _
  · exact h

theorem notRefused_dataByte (v : Byte) (s : State) : NotRefused (execDataByte v s) := by
  refine notRefused_check ?_
  split
  · exact notRefused_next _
  · refine notRefused_check ?_
    split
    · exact notRefused_next _
    · split
      · exact notRefused_next _
      · exact notRefused_fault _

theorem notRefused_passthrough (g : List Byte) (s : State) : NotRefused (passthrough g s) :=
  notRefused_check (notRefused_check (notRefused_check (notRefused_complete _ _)))

theorem exec_notRefused (i : Instr) (s : State) : NotRefused (exec i s) := by
  cases i with
  | config a => exact notRefused_check (notRefused_check (notRefused_next _))
  | initialise => exact notRefused_check (notRefused_check (notRefused_complete _ _))
  | beginCmd => exact notRefused_check (notRefused_check (notRefused_complete _ _))
  | cmdByte c => exact notRefused_check (notRefused_check (notRefused_complete _ _))
  | endCmd => exact notRefused_check (notRefused_check (notRefused_complete _ _))
  | beginData =>
    exact notRefused_check (notRefused_check (notRefused_check (notRefused_check (notRefused_complete _ _))))
  | dataByte v => exact notRefused_dataByte v s
  | endData => exact notRefused_check (notRefused_complete _ _)
  | sendCommand c => exact notRefused_check (notRefused_check (notRefused_complete _ _))
  | setPosition r c =>
    exact notRefused_check (notRefused_check (notRefused_check (notRefused_check (notRefused_complete _ _))))
  | setContrast l => exact notRefused_passthrough _ s
  | invertScreen f => exact notRefused_passthrough _ s
  | sleep f => exact notRefused_passthrough _ s

/-! ### The register invariants (R32) -/

/-- A well-formed capacity admits four bytes (R11). -/
theorem admits_of_wf {c : Config} (h : c.wf = true) {n : Nat} (hn : n ≤ 4) : c.txnCap.admits n = true := by
  have hcap : c.txnCap.wf = true := (Bool.and_eq_true_iff.1 h).1
  cases hk : c.txnCap with
  | unbounded => rfl
  | bounded cap =>
    rw [hk] at hcap
    exact decide_eq_true (hn.trans (of_decide_eq_true hcap))

/-- An idle machine needs few of the invariants of R32: no clause about an open frame applies to it. -/
theorem regInv_of_idle {t : State} (hw : t.config.wf = true)
    (ha : t.cfg.configured = true → t.config.addrSet.contains t.cfg.addr = true)
    (hi : t.initDone = true → t.cfg.configured = true) (hf : t.frame = .idle) (hn : t.txn.count = 0)
    (hv : t.cur.valid = true → t.cur.col.toNat ≤ 128) : RegInv t := by
  have hcap : t.config.txnCap.admits t.txn.count = true := hn ▸ admits_of_wf hw (Nat.zero_le 4)
  exact ⟨hw, ha, fun h => absurd hf h, hi, fun _ => hn, fun h => by simp [hf] at h, fun h => by simp [hf] at h, hv, hcap⟩

/-- A configured machine that keeps its address and comes back to no open frame keeps the invariants, whatever INIT.done
becomes. -/
theorem RegInv.close {s t : State} (hs : RegInv s) (hc : s.cfg.configured = true) (hp : t.config = s.config)
    (hcfg : t.cfg = s.cfg) (hf : t.frame = .idle) (hn : t.txn.count = 0)
    (hv : t.cur.valid = true → t.cur.col.toNat ≤ 128) : RegInv t := by
  obtain ⟨hw, ha, -⟩ := hs
  exact regInv_of_idle (hp ▸ hw) (by rw [hp, hcfg]; exact ha) (fun _ => hcfg ▸ hc) hf hn hv

/-- A command frame open at a byte count that fits keeps the invariants, if the cursor is unknown (R113, R114). -/
theorem RegInv.inCommandFrame {s t : State} (hs : RegInv s) (hc : s.cfg.configured = true) (hp : t.config = s.config)
    (hcfg : t.cfg = s.cfg) (hf : t.frame = .cmd) (hv : t.cur.valid = false)
    (hcap : s.config.txnCap.admits t.txn.count = true) : RegInv t := by
  obtain ⟨hw, ha, -⟩ := hs
  exact ⟨hp ▸ hw, by rw [hp, hcfg]; exact ha, fun _ => hcfg ▸ hc, fun _ => hcfg ▸ hc, fun h => by simp [hf] at h,
    fun h => by simp [hf] at h, fun _ => hv, fun h => by simp [hv] at h, by rw [hp]; exact hcap⟩

/-- A data frame open at a byte count that fits keeps the invariants, if the cursor is as far from `TXN.col0` as bytes were
sent behind the control byte (R116, R117). -/
theorem RegInv.inDataFrame {s t : State} (hs : RegInv s) (hc : s.cfg.configured = true) (hp : t.config = s.config)
    (hcfg : t.cfg = s.cfg) (hf : t.frame = .data) (hi : t.initDone = true) (hv : t.cur.valid = true)
    (hle : t.txn.col0.toNat ≤ t.cur.col.toNat) (hcol : t.cur.col.toNat ≤ 128)
    (hn : t.txn.count = 1 + (t.cur.col.toNat - t.txn.col0.toNat))
    (hcap : s.config.txnCap.admits t.txn.count = true) : RegInv t := by
  obtain ⟨hw, ha, -⟩ := hs
  exact ⟨hp ▸ hw, by rw [hp, hcfg]; exact ha, fun _ => hcfg ▸ hc, fun _ => hcfg ▸ hc, fun h => by simp [hf] at h,
    fun _ => ⟨hv, hi, hle, hcol, hn⟩, fun h => by simp [hf] at h, fun _ => hcol, by rw [hp]; exact hcap⟩

/-- A column short of the right edge moves on by one without wrapping (R117). -/
theorem col_succ_toNat {c : BitVec 8} (h : c.toNat ≤ 128) : (c + 1).toNat = c.toNat + 1 := by
  rw [BitVec.toNat_add]
  exact Nat.mod_eq_of_lt (Nat.lt_of_le_of_lt (Nat.succ_le_succ h) (by decide))

/-- A composite operation makes the cursor known only as SET_POSITION, at a place on the grid (R27, R150). -/
theorem curAfter_of_valid {i : Instr} {s : State} (hr : offGrid i = false) (hv : (curAfter i s).valid = true) :
    ∃ r c, i = .setPosition r c ∧ r.toNat ≤ 7 ∧ c.toNat ≤ 127 ∧
      curAfter i s = { valid := true, page := rowPage r, col := c } := by
  cases i with
  | setPosition r c =>
    have hrc : ¬ (r.toNat > 7 ∨ c.toNat > 127) := of_decide_eq_false hr
    exact ⟨r, c, rfl, by omega, by omega, rfl⟩
  | _ => nomatch hv

/-- Every operation keeps the register invariants. -/
theorem Did.regInv {s t : State} {i : Instr} (h : Did s i t) (hs : RegInv s) : RegInv t := by
  have ⟨hw, _, hopen, _, hidle, hdata, hcmd, hcol, _⟩ := hs
  cases h with
  | rejected i e he => exact hs
  | clipped v hf hc => exact hs
  | configured a hn hin =>
    have hf : s.frame = .idle := by
      by_contra hne
      exact absurd (hn.symm.trans (hopen hne)) Bool.false_ne_true
    exact regInv_of_idle hw (fun _ => hin) (fun _ => rfl) hf (hidle hf) hcol
  | beganCmd hc hf => exact hs.inCommandFrame hc rfl rfl rfl rfl (admits_of_wf hw (Nat.zero_le 4))
  | sentCmdByte c hf hn => exact hs.inCommandFrame (hopen (by simp [hf])) rfl rfl hf (hcmd hf) hn
  | endedCmd hf hn => exact hs.close (hopen (by simp [hf])) rfl rfl rfl rfl hcol
  | beganData hc hi hf hv =>
    have hone : 1 = 1 + (s.cur.col.toNat - s.cur.col.toNat) := by omega
    exact hs.inDataFrame hc rfl rfl rfl hi hv (Nat.le_refl _) (hcol hv) hone (admits_of_wf hw (Nat.le_add_left 1 3))
  | sentDataByte v hf hc hn hcell =>
    obtain ⟨hv, hi, hle, hedge, hcount⟩ := hdata hf
    have hsucc : (s.cur.col + 1).toNat = s.cur.col.toNat + 1 := col_succ_toNat hedge
    refine hs.inDataFrame (hopen (by simp [hf])) rfl rfl hf hi hv ?_ ?_ ?_ hn
    · show s.txn.col0.toNat ≤ (s.cur.col + 1).toNat
      omega
    · show (s.cur.col + 1).toNat ≤ 128
      omega
    · show s.txn.count + 1 = 1 + ((s.cur.col + 1).toNat - s.txn.col0.toNat)
      omega
  | composed i gs hg hc hi hf hr =>
    have hn : (if gs = [] then s.txn.count else 0) = 0 := by simp [hidle hf]
    refine hs.close hc rfl rfl hf hn fun hv => ?_
    obtain ⟨r, c, -, -, hcle, hcur⟩ := curAfter_of_valid hr hv
    show (curAfter i s).col.toNat ≤ 128
    rw [hcur]
    exact Nat.le_succ_of_le hcle
  | composedFailed i gs n hg hc | beginCmdFailed hc | beginDataFailed n hn hc =>
    exact hs.close hc rfl rfl rfl rfl (nomatch ·)
  | endedData hf | cmdByteFailed c n hn hf | endCmdFailed hf | dataByteFailed v hf | endDataFailed hf =>
    exact hs.close (hopen (by simp [hf])) rfl rfl rfl rfl (nomatch ·)

theorem regInv_takeReset (k : ResetKind) {s : State} (hs : RegInv s) : RegInv (takeReset k s) := by
  obtain ⟨hw, -⟩ := hs
  refine regInv_of_idle ?_ ?_ ?_ ?_ ?_ ?_ <;> simp [hw]

theorem WordDid.regInv {s t : State} (h : WordDid s t) (hs : RegInv s) : RegInv t := by
  cases h with
  | illegal => exact hs
  | ran i t h => exact h.regInv hs

/-- The parameters of the reset state pass their check, whatever the OPEN values are (00_scope.md section 4). -/
theorem chosen_wf : Config.chosen.wf = true := by
  refine Bool.and_eq_true_iff.2 ⟨?_, ?_⟩
  · show (TxnCap.ofOpen Config.openTxnCap).wf = true
    cases Config.openTxnCap with
    | none => rfl
    | some k => exact decide_eq_true (Nat.le_add_left 4 k)
  · exact List.all_eq_true.2 fun g hg => (List.mem_filter.1 hg).2

theorem regInv_initial {c : Config} (h : c.wf = true) : RegInv (State.initial c) :=
  regInv_of_idle h (nomatch ·) (nomatch ·) rfl rfl (nomatch ·)

/-! ### STATUS and ERRLOG (R28, R29, R201) -/

/-- From `s` to `t` ERRLOG has taken up the status `t` ends with: nothing for OK or CLIPPED, the bit of an error (R29). -/
def ErrlogFollows (s t : State) : Prop :=
  ((t.status = .ok ∨ t.status = .clipped) ∧ t.errlog = s.errlog) ∨
  ∃ e, t.status = .error e ∧ t.errlog = s.errlog ||| (1#16 <<< (errorCode e).toNat)

theorem errlogFollows_ok {s t : State} (hst : t.status = .ok) (h : t.errlog = s.errlog) : ErrlogFollows s t :=
  .inl ⟨.inl hst, h⟩

theorem errlogFollows_transport {s t : State} (hst : t.status = .error .transport)
    (h : t.errlog = s.errlog ||| 0x0200#16) : ErrlogFollows s t :=
  .inr ⟨.transport, hst, h⟩

theorem Did.errlogFollows {s t : State} {i : Instr} (h : Did s i t) : ErrlogFollows s t := by
  cases h with
  | rejected i e he => exact .inr ⟨e, rfl, rfl⟩
  | clipped v hf hc => exact .inl ⟨.inr rfl, rfl⟩
  | configured | beganCmd | sentCmdByte | endedCmd | beganData | sentDataByte | endedData | composed =>
    exact errlogFollows_ok rfl rfl
  | composedFailed | beginCmdFailed | cmdByteFailed | endCmdFailed | beginDataFailed | dataByteFailed | endDataFailed =>
    exact errlogFollows_transport rfl rfl

theorem WordDid.errlogFollows {s t : State} (h : WordDid s t) : ErrlogFollows s t := by
  cases h with
  | illegal => exact .inr ⟨.illegal, rfl, rfl⟩
  | ran i t h => exact h.errlogFollows

/-- The bits that R29 reserves belong to no error code. -/
theorem errorBit_and_reserved (e : ErrorCode) : (1#16 <<< (errorCode e).toNat) &&& 0xFC03#16 = 0#16 := by
  cases e <;> decide

theorem ErrlogFollows.errlogInv {s t : State} (h : ErrlogFollows s t) (hs : ErrlogInv s) : ErrlogInv t := by
  rcases h with ⟨-, he⟩ | ⟨e, -, he⟩
  · exact (congrArg (· &&& 0xFC03#16) he).trans hs
  · show t.errlog &&& 0xFC03#16 = 0#16
    rw [he, BitVec.and_or_distrib_right, hs, errorBit_and_reserved, BitVec.or_zero]

/-! ### What a word leaves of the host, CFG, INIT and CUR -/

theorem Did.sameHost {s t : State} {i : Instr} (h : Did s i t) : SameHost s t := by
  cases h <;> exact ⟨rfl, rfl, rfl, rfl, rfl⟩

theorem WordDid.sameHost {s t : State} (h : WordDid s t) : SameHost s t := by
  cases h with
  | illegal => exact ⟨rfl, rfl, rfl, rfl, rfl⟩
  | ran i t h => exact h.sameHost

/-- CONFIG alone writes CFG, and only from an unconfigured state (R23, R170). -/
theorem Did.cfg_of_configured {s t : State} {i : Instr} (h : Did s i t) (hc : s.cfg.configured = true) :
    t.cfg = s.cfg := by
  cases h with
  | configured a hn ha => simp [hn] at hc
  | _ => rfl

theorem WordDid.cfg_of_configured {s t : State} (h : WordDid s t) (hc : s.cfg.configured = true) : t.cfg = s.cfg := by
  cases h with
  | illegal => rfl
  | ran i t h => exact h.cfg_of_configured hc

theorem initAfter_of_ne {i : Instr} (h : i ≠ .initialise) (b : Bool) (s : State) : initAfter i b s = s.initDone :=
  if_neg h

@[simp] theorem initAfter_initialise (b : Bool) (s : State) : initAfter .initialise b s = b := rfl

theorem Did.initDone_of_ne {s t : State} {i : Instr} (h : Did s i t) (hi : i ≠ .initialise) :
    t.initDone = s.initDone := by
  cases h with
  | composed => exact initAfter_of_ne hi true s
  | composedFailed => exact initAfter_of_ne hi false s
  | _ => rfl

/-- A check never ends an operation with ERR_TRANSPORT (R200). -/
theorem not_causeApplies_transport {i : Instr} {s : State} : causeApplies i s .transport ≠ true := Bool.false_ne_true

/-- Past its checks INITIALIZE leaves INIT.done at 1 with OK and at 0 with ERR_TRANSPORT (R171). -/
theorem Did.initDone_of_initialise {s t : State} (h : Did s .initialise t) :
    (t.status = .ok → t.initDone = true) ∧ (t.status = .error .transport → t.initDone = false) := by
  cases h with
  | rejected _ e he =>
    refine ⟨(nomatch ·), fun h => ?_⟩
    injection h with h
    exact absurd (h ▸ he) not_causeApplies_transport
  | composed => exact ⟨fun _ => rfl, (nomatch ·)⟩
  | composedFailed => exact ⟨(nomatch ·), fun _ => rfl⟩

/-- The cursor becomes known only by a SET_POSITION that ends OK (R27). -/
theorem Did.setPosition_of_cur_valid {s t : State} {i : Instr} (h : Did s i t) (hs : s.cur.valid = false)
    (ht : t.cur.valid = true) :
    t.status = .ok ∧ ∃ r c, i = .setPosition r c ∧ t.cur.page.toNat = r.toNat ∧ t.cur.col = c := by
  cases h with
  | composed i gs hg hc hi hf hr =>
    obtain ⟨r, c, hi, hrle, -, hcur⟩ := curAfter_of_valid hr ht
    refine ⟨rfl, r, c, hi, ?_, congrArg Cur.col hcur⟩
    exact (congrArg (fun cur : Cur => cur.page.toNat) hcur).trans (rowPage_toNat r hrle)
  | rejected | clipped | configured | sentCmdByte | endedCmd | beganData | sentDataByte =>
    exact absurd (hs.symm.trans ht) Bool.false_ne_true
  | _ => nomatch ht

/-- The operations after which a success leaves the cursor unknown: what needs no open frame, except the two that use or set
the cursor, and END_DATA (R27, R234). -/
def UnsetsCursor (i : Instr) : Prop :=
  (needsFrame i = some .idle ∧ i ≠ .beginData ∧ ∀ r c, i ≠ .setPosition r c) ∨ i = .endData

theorem curAfter_invalid {i : Instr} {s : State} (h : ∀ r c, i ≠ .setPosition r c) : (curAfter i s).valid = false := by
  cases i with
  | setPosition r c => exact absurd rfl (h r c)
  | _ => rfl

theorem Did.cur_invalid {s t : State} {i : Instr} (h : Did s i t) (hi : UnsetsCursor i) (hok : t.status = .ok) :
    t.cur.valid = false := by
  cases h with
  | composed i gs hg =>
    rcases hi with ⟨-, -, hp⟩ | rfl
    · exact curAfter_invalid hp
    · nomatch hg
  | beganCmd | endedData => rfl
  | rejected | clipped => nomatch hok
  | configured | sentCmdByte | endedCmd | beganData | sentDataByte => simp [UnsetsCursor, needsFrame] at hi
  | _ => rfl

end Sys2Proof.Machine
end

section
/-! PROOFS. The statements about the state and its registers (10_state.md). -/

open Sys2Proof Sys2Proof.Machine

/-- Settles O55: a reset leaves an idle machine, and every way an operation can end keeps the invariants. -/
theorem stepKeepsTheRegisterInvariants : Obligations.StepKeepsTheRegisterInvariants := by
  intro s t hs h
  rcases step_cases h with ⟨k, rfl⟩ | ⟨u, hu, rfl⟩
  · exact regInv_takeReset k hs
  · exact hu.regInv hs

/-- Settles O15: no operation writes the host's side, so only `pc` moves. -/
theorem hostIndexAdvancesByOneWord : Obligations.HostIndexAdvancesByOneWord := by
  intro s t h0 h
  obtain ⟨u, hu, rfl⟩ := step_did h0 h
  obtain ⟨hpc, hprogram, hconfig, hacks, hreq⟩ := hu.sameHost
  exact ⟨congrArg (· + 1) hpc, hprogram, hconfig, hacks, hreq.trans h0⟩

/-- Settles O32: a word ends OK or CLIPPED with ERRLOG unchanged, or with one error and that error's bit. -/
theorem errlogRecordsExactlyTheStatus : Obligations.ErrlogRecordsExactlyTheStatus := by
  intro s t h0 h
  obtain ⟨u, hu, rfl⟩ := step_did h0 h
  simp only [advancePc_status, advancePc_errlog]
  rcases hu.errlogFollows with ⟨hst, he⟩ | ⟨e, hst, he⟩
  · exact ⟨fun _ => he, fun e hk => by simp [hk] at hst⟩
  · refine ⟨fun hk => by simp [hst] at hk, fun e' hk => ?_⟩
    obtain rfl : e = e' := by simpa [hst] using hk
    exact he

/-- Settles O33: a reset clears ERRLOG, and no error code has a reserved bit. -/
theorem stepKeepsErrlogReservedBitsZero : Obligations.StepKeepsErrlogReservedBitsZero := by
  intro s t hs h
  rcases step_cases h with ⟨k, rfl⟩ | ⟨u, hu, rfl⟩
  · show (takeReset k s).errlog &&& 0xFC03#16 = 0#16
    rw [takeReset_errlog]
    decide
  · exact hu.errlogFollows.errlogInv hs

/-- Settles O43: only CONFIG writes CFG, and it is rejected once CFG is configured. -/
theorem addressNeverChangesOnceConfigured : Obligations.AddressNeverChangesOnceConfigured := by
  intro s t h0 hc h
  obtain ⟨u, hu, rfl⟩ := step_did h0 h
  exact hu.cfg_of_configured hc

/-- Settles O44, by cases on what the operation did. -/
theorem onlyInitializeWritesInitDone : Obligations.OnlyInitializeWritesInitDone := by
  intro i s t h
  have hd : Did s i t := exec_did i s t h
  refine ⟨hd.initDone_of_ne, ?_, ?_⟩
  · rintro rfl
    exact hd.initDone_of_initialise.1
  · rintro rfl
    exact hd.initDone_of_initialise.2

/-- Settles O45: SET_POSITION alone writes CUR.valid to 1; the other command frames and END_DATA clear it. -/
theorem cursorIsKnownOnlyWhenJustSet : Obligations.CursorIsKnownOnlyWhenJustSet := by
  intro i s t h
  have hd : Did s i t := exec_did i s t h
  exact ⟨hd.setPosition_of_cur_valid, fun hok hi => hd.cur_invalid hi hok⟩

/-- Settles O8: the reset state is written with the values of R33. -/
theorem resetLeavesTheSpecsValues : Obligations.ResetLeavesTheSpecsValues :=
  ⟨rfl, rfl, rfl, rfl, rfl, rfl, rfl, rfl, rfl, Memory.read_nil⟩

/-- Settles O12: the step of a word that decodes is `exec` and then `pc + 1`, and `exec` refuses nothing. -/
theorem stepRunsTheDecodedOperation : Obligations.StepRunsTheDecodedOperation := by
  intro s w i h0 hw hi
  have hstep : step s = thenAdvance (exec i s) := by simp only [step_of_word h0 hw, runWord, hi]
  refine ⟨fun t ht => ?_, fun f hf => ?_, exec_notRefused i s⟩
  · rw [hstep, ht]
    rfl
  · rw [hstep, hf]
    rfl

/-- Settles O54: the reset state is idle, unconfigured and empty, and its parameters pass their check. -/
theorem resetMeetsTheInvariants : Obligations.ResetMeetsTheInvariants :=
  ⟨regInv_initial chosen_wf, rfl, ⟨.nil, fun _ h => nomatch h⟩, by decide⟩
end

section
/-! SUPPORT. What a word leaves in LOG, read event by event: which events may follow in each phase, and that every way an
operation can end leaves LOG where FRAME and TXN say (R51, R80 to R83, R112). -/

namespace Sys2Proof.Machine

/-! ### Scanning a log -/

theorem scanLog_cons {p q : BusPhase} {e : BusEvent} (h : p.after e = some q) (es : List BusEvent) :
    scanLog p (e :: es) = scanLog q es := by
  simp only [scanLog, h]

/-- A scan of a nonempty log has passed its first event. -/
theorem scanLog_cons_eq_some {p r : BusPhase} {e : BusEvent} {es : List BusEvent} (h : scanLog p (e :: es) = some r) :
    ∃ q, p.after e = some q ∧ scanLog q es = some r := by
  cases ha : p.after e with
  | some q => exact ⟨q, rfl, (scanLog_cons ha es).symm.trans h⟩
  | none => simp [scanLog, ha] at h

/-- The scan of a log goes on with what is appended from the phase it has reached. -/
theorem scanLog_append {p q : BusPhase} {es : List BusEvent} (h : scanLog p es = some q) (fs : List BusEvent) :
    scanLog p (es ++ fs) = scanLog q fs := by
  induction es generalizing p with
  | nil =>
    injection h with h
    rw [h, List.nil_append]
  | cons e es ih =>
    obtain ⟨r, ha, hr⟩ := scanLog_cons_eq_some h
    rw [List.cons_append, scanLog_cons ha, ih hr]

/-- End may come in every phase but the closed one (R80, R99). -/
theorem after_endEv {p : BusPhase} (h : p ≠ .closed) : p.after .endEv = some .closed := by
  cases p with
  | closed => exact absurd rfl h
  | _ => rfl

/-- End leaves no transaction open, and every other event does (R80). -/
theorem after_eq_closed_iff {p q : BusPhase} {e : BusEvent} (h : p.after e = some q) : q = .closed ↔ e = .endEv := by
  cases e with
  | endEv => cases p <;> simp_all [BusPhase.after]
  | beginEv a => cases p <;> simp_all [BusPhase.after, eq_comm]
  | byteEv b =>
    refine iff_of_false ?_ (nomatch ·)
    rintro rfl
    cases p <;> simp [BusPhase.after] at h
    · split at h <;> simp at h

theorem abortedEvents_cons_succ (e : BusEvent) (es : List BusEvent) (n : Nat) :
    abortedEvents (e :: es) (n + 1) = e :: abortedEvents es n := by
  simp [abortedEvents]

/-- Events cut short by a transport error end with no transaction open, whichever of them failed (R112). -/
theorem scanLog_abortedEvents {p q : BusPhase} {es : List BusEvent} {n : Nat} (h : scanLog p es = some q)
    (hn : n < es.length) : scanLog p (abortedEvents es n) = some .closed := by
  induction es generalizing p n with
  | nil => exact absurd hn (Nat.not_lt_zero n)
  | cons e es ih =>
    obtain ⟨r, ha, hr⟩ := scanLog_cons_eq_some h
    cases n with
    | succ n => rw [abortedEvents_cons_succ, scanLog_cons ha, ih hr (Nat.lt_of_succ_lt_succ hn)]
    | zero =>
      by_cases he : e = .endEv
      · obtain rfl : r = .closed := (after_eq_closed_iff ha).2 he
        simp [abortedEvents, he, scanLog, he ▸ ha]
      · have hend : r.after .endEv = some .closed := after_endEv fun hr => he ((after_eq_closed_iff ha).1 hr)
        simp [abortedEvents, he, scanLog, ha, hend]

/-- Command bytes, each after its control byte, may follow Begin and one another (R82). -/
theorem scanLog_commandBytes {p : BusPhase} (hp : p = .opened ∨ p = .command) (g : List Byte) :
    ∃ q, (q = .opened ∨ q = .command) ∧ scanLog p (g.flatMap fun c => [.byteEv 0x00, .byteEv c]) = some q := by
  induction g generalizing p with
  | nil => exact ⟨p, hp, rfl⟩
  | cons c g ih =>
    obtain ⟨q, hq, h⟩ := ih (.inr rfl)
    refine ⟨q, hq, ?_⟩
    rcases hp with rfl | rfl <;> exact h

/-- A command frame is one transaction (R82, R121). -/
theorem scanLog_groupEvents (a8 : Byte) (g : List Byte) : scanLog .closed (groupEvents a8 g) = some .closed := by
  obtain ⟨q, hq, h⟩ := scanLog_commandBytes (.inl rfl) g
  refine (scanLog_append h [.endEv]).trans ?_
  rcases hq with rfl | rfl <;> rfl

theorem scanLog_groupsEvents (a8 : Byte) (gs : List (List Byte)) :
    scanLog .closed (groupsEvents a8 gs) = some .closed := by
  induction gs with
  | nil => rfl
  | cons g gs ih => exact (scanLog_append (scanLog_groupEvents a8 g) _).trans ih

/-! ### The phase of FRAME and TXN -/

theorem framePhase_idle {s : State} (h : s.frame = .idle) : framePhase s = .closed := by
  simp only [framePhase, h]

theorem framePhase_data {s : State} (h : s.frame = .data) : framePhase s = .data := by
  simp only [framePhase, h]

theorem framePhase_cmd {s : State} (h : s.frame = .cmd) : framePhase s = .opened ∨ framePhase s = .command := by
  simp only [framePhase, h, ite_eq_left_iff, ite_eq_right_iff]
  omega

theorem framePhase_command {s : State} (h : s.frame = .cmd) (hn : s.txn.count ≠ 0) : framePhase s = .command := by
  simp only [framePhase, h, if_neg hn]

/-! ### The invariant of LOG -/

/-- Events that lead from the phase of `s` to the phase of `t` keep LOG well formed. -/
theorem LogInv.append {s t : State} (hs : LogInv s) (es : List BusEvent) (hlog : t.log = s.log ++ es)
    (h : scanLog (framePhase s) es = some (framePhase t)) : LogInv t := by
  rw [LogInv, hlog, scanLog_append hs, h]

/-- A transport error among events that may follow keeps LOG well formed (R112). -/
theorem LogInv.abort {s t : State} {q : BusPhase} {n : Nat} (hs : LogInv s) (es : List BusEvent)
    (h : scanLog (framePhase s) es = some q) (hn : n < es.length) (hlog : t.log = s.log ++ abortedEvents es n)
    (hf : t.frame = .idle) : LogInv t :=
  hs.append (abortedEvents es n) hlog ((scanLog_abortedEvents h hn).trans (congrArg some (framePhase_idle hf).symm))

/-- The two bytes of CMD_BYTE may come anywhere in a command frame (R114). -/
theorem scanLog_cmdByte {s : State} (hf : s.frame = .cmd) (c : Byte) :
    scanLog (framePhase s) [.byteEv 0x00, .byteEv c] = some .command := by
  rcases framePhase_cmd hf with h | h <;> rw [h] <;> rfl

/-- Every operation keeps LOG well formed. -/
theorem Did.logInv {s t : State} {i : Instr} (h : Did s i t) (hs : LogInv s) : LogInv t := by
  cases h with
  | rejected | clipped | configured => exact hs
  | beganCmd hc hf => exact hs.append [.beginEv _] rfl (by rw [framePhase_idle hf]; rfl)
  | sentCmdByte c hf hn =>
    refine hs.append [.byteEv 0x00, .byteEv c] rfl ((scanLog_cmdByte hf c).trans (congrArg some ?_))
    exact (framePhase_command (by exact hf) (Nat.succ_ne_zero (s.txn.count + 1))).symm
  | endedCmd hf hn => exact hs.append [.endEv] rfl (by rw [framePhase_command hf hn]; rfl)
  | beganData hc hi hf hv => exact hs.append [.beginEv _, .byteEv 0x40] rfl (by rw [framePhase_idle hf]; rfl)
  | sentDataByte v hf => exact hs.append [.byteEv v] rfl (by rw [framePhase_data hf, framePhase_data (by exact hf)]; rfl)
  | endedData hf => exact hs.append [.endEv] rfl (by rw [framePhase_data hf]; rfl)
  | composed i gs hg hc hi hf hr =>
    refine hs.append _ rfl ?_
    rw [framePhase_idle hf, scanLog_groupsEvents, framePhase_idle (by exact hf)]
  | composedFailed i gs n hg hc hf hn =>
    exact hs.abort _ (by rw [framePhase_idle hf, scanLog_groupsEvents]) hn rfl rfl
  | beginCmdFailed hc hf => exact hs.abort [.beginEv _] (by rw [framePhase_idle hf]; rfl) Nat.one_pos rfl rfl
  | cmdByteFailed c n hn hf => exact hs.abort _ (scanLog_cmdByte hf c) hn rfl rfl
  | endCmdFailed hf =>
    refine hs.abort (q := .closed) [.endEv] ?_ Nat.one_pos rfl rfl
    rcases framePhase_cmd hf with h | h <;> rw [h] <;> rfl
  | beginDataFailed n hn hc hf => exact hs.abort [.beginEv _, .byteEv 0x40] (by rw [framePhase_idle hf]; rfl) hn rfl rfl
  | dataByteFailed v hf => exact hs.abort [.byteEv v] (by rw [framePhase_data hf]; rfl) Nat.one_pos rfl rfl
  | endDataFailed hf => exact hs.abort [.endEv] (by rw [framePhase_data hf]; rfl) Nat.one_pos rfl rfl

theorem WordDid.logInv {s t : State} (h : WordDid s t) (hs : LogInv s) : LogInv t := by
  cases h with
  | illegal => exact hs
  | ran i t h => exact h.logInv hs

/-- A reset leaves LOG empty or, as a block reset outside a frame, closed (R230, R231). -/
theorem logInv_takeReset {k : ResetKind} {s : State} (hs : LogInv s) (hf : k = .block → s.frame = .idle) :
    LogInv (takeReset k s) := by
  cases k with
  | powerOn => rfl
  | block => exact hs.trans (congrArg some (framePhase_idle (hf rfl)))

end Sys2Proof.Machine
end

section
/-! SUPPORT. What a word leaves of the display memory (R52 to R57), and that no operation reads it: the same operation on
two states that differ in their cells alone takes the same course. -/

namespace Sys2Proof.Machine

/-! ### Reading cells -/

theorem memWrite_of_lt {a : Nat} (ha : a < nCells) (v : Byte) (s : State) :
    memWrite a v s = .ok { s with disp := s.disp.write a v } := if_pos ha

theorem memWrite_of_ge {a : Nat} (ha : nCells ≤ a) (v : Byte) (s : State) : memWrite a v s = .error .noSuchCell :=
  if_neg (Nat.not_lt.2 ha)

theorem memRead_of_ge {a : Nat} (ha : nCells ≤ a) (s : State) : memRead a s = .error .noSuchCell :=
  if_neg (Nat.not_lt.2 ha)

theorem memRead_of_known {a : Nat} {v : Byte} {s : State} (ha : a < nCells) (h : s.disp.read a = some v) :
    memRead a s = .ok v := by
  simp only [memRead, if_pos ha, h]

theorem memRead_of_unknown {a : Nat} {s : State} (ha : a < nCells) (h : s.disp.read a = none) :
    memRead a s = .error .unknownCell := by
  simp only [memRead, if_pos ha, h]

theorem memRead_congr {a : Nat} {s t : State} (h : t.disp.read a = s.disp.read a) : memRead a t = memRead a s := by
  simp only [memRead, h]

/-! ### What a word leaves of the display memory -/

/-- Only DATA_BYTE and END_DATA change a cell (R53, R54, R57). -/
theorem Did.disp_of_not_touchesDisplay {s t : State} {i : Instr} (h : Did s i t) (hi : touchesDisplay i = false) :
    t.disp = s.disp := by
  cases h with
  | sentDataByte | dataByteFailed | endDataFailed => nomatch hi
  | _ => rfl

theorem Did.disp_wf {s t : State} {i : Instr} (h : Did s i t) (hs : s.disp.wf) : t.disp.wf := by
  cases h with
  | sentDataByte v hf hc hn ha => exact Memory.wf_write _ _ v hs ha
  | dataByteFailed | endDataFailed => exact Memory.wf_forgetFrom _ _ _ hs
  | _ => exact hs

theorem WordDid.disp_wf {s t : State} (h : WordDid s t) (hs : s.disp.wf) : t.disp.wf := by
  cases h with
  | illegal => exact hs
  | ran i t h => exact h.disp_wf hs

theorem disp_wf_takeReset (k : ResetKind) {s : State} (hs : s.disp.wf) : (takeReset k s).disp.wf := by
  cases k with
  | powerOn => exact ⟨.nil, fun _ h => nomatch h⟩
  | block => exact hs

/-! ### No operation reads the display memory -/

/-- Two runs that began with the cells `m` and `d` stand at `u` and `v`: they differ in their cells alone, and each cell is
untouched in both or the same in both. -/
inductive Alike (m d : Memory) (u : State) : State → Prop
  | differ (e : Memory) (h : ∀ a, (u.disp.read a = m.read a ∧ e.read a = d.read a) ∨ e.read a = u.disp.read a) :
    Alike m d u { u with disp := e }

/-- Two attempts that have come equally far, in states that are alike. -/
inductive Attempt.Alike (m d : Memory) : Attempt → Attempt → Prop
  | going {u v : State} (h : Machine.Alike m d u v) : Attempt.Alike m d (.going u) (.going v)
  | ended {u v : State} (h : Machine.Alike m d u v) : Attempt.Alike m d (.ended u) (.ended v)

/-- Whatever next state `o` answers, `o'` answers one that is alike. -/
def FollowedBy (m d : Memory) (o o' : Host.Outcome State Fault Refusal) : Prop :=
  ∀ t, o = .next t → ∃ w, o' = .next w ∧ Alike m d t w

/-- A write to registers, LOG or draws alone: the cells pass through it. -/
def SparesDisplay (p : State → State) : Prop :=
  ∀ (s : State) (e : Memory), p { s with disp := e } = { p s with disp := e }

/-- A part of an operation that reads no cell: from states that are alike it comes equally far, to states that are
alike. -/
def Blind (k : State → Attempt) : Prop := ∀ m d u v, Alike m d u v → (k u).Alike m d (k v)

/-! #### The register writes spare the cells -/

theorem spares_raise (e : ErrorCode) : SparesDisplay (raise e) := fun _ _ => rfl
theorem spares_finish (st : Status) : SparesDisplay (finish st) := fun _ _ => rfl
theorem spares_clearCursor : SparesDisplay clearCursor := fun _ _ => rfl
theorem spares_setCursor (p : BitVec 3) (c : BitVec 8) : SparesDisplay (setCursor p c) := fun _ _ => rfl
theorem spares_advanceCursor : SparesDisplay advanceCursor := fun _ _ => rfl
theorem spares_openFrame (f : FrameState) (n : Nat) : SparesDisplay (openFrame f n) := fun _ _ => rfl
theorem spares_markColumn : SparesDisplay markColumn := fun _ _ => rfl
theorem spares_closeFrame : SparesDisplay closeFrame := fun _ _ => rfl
theorem spares_addCount (n : Nat) : SparesDisplay (addCount n) := fun _ _ => rfl
theorem spares_setInitDone (b : Bool) : SparesDisplay (setInitDone b) := fun _ _ => rfl
theorem spares_sent (es : List BusEvent) : SparesDisplay (sent es) := fun _ _ => rfl

/-! #### The operations on the cells -/

theorem alike_withDisp (s : State) (d : Memory) : Alike s.disp d s { s with disp := d } :=
  .differ d fun _ => .inl ⟨rfl, rfl⟩

section alike
variable {m d : Memory} {u v : State}

/-- The same write to the same cell leaves it the same in both runs. -/
theorem Alike.write (h : Alike m d u v) (a : Nat) (b : Byte) :
    Alike m d { u with disp := u.disp.write a b } { v with disp := v.disp.write a b } := by
  obtain ⟨e, h⟩ := h
  refine .differ (u := { u with disp := u.disp.write a b }) (e.write a b) fun k => ?_
  simp only [Memory.read_write]
  by_cases hk : k = a
  · simp only [if_pos hk, or_true]
  · simpa only [if_neg hk] using h k

/-- Forgetting the same cells leaves them Unknown in both runs. -/
theorem Alike.forgetFrom (h : Alike m d u v) (a n : Nat) :
    Alike m d { u with disp := u.disp.forgetFrom a n } { v with disp := v.disp.forgetFrom a n } := by
  obtain ⟨e, h⟩ := h
  refine .differ (u := { u with disp := u.disp.forgetFrom a n }) (e.forgetFrom a n) fun k => ?_
  simp only [Memory.read_forgetFrom]
  by_cases hk : a ≤ k ∧ k < a + n
  · simp only [if_pos hk, or_true]
  · simpa only [if_neg hk] using h k

/-- A write that spares the cells leaves them as they were. -/
theorem SparesDisplay.disp {p : State → State} (hp : SparesDisplay p) (s : State) : (p s).disp = s.disp := by
  have h : p s = { p s with disp := s.disp } := hp s s.disp
  rw [h]

theorem Alike.spared {p : State → State} (h : Alike m d u v) (hp : SparesDisplay p) : Alike m d (p u) (p v) := by
  obtain ⟨e, h⟩ := h
  rw [hp u e]
  exact .differ e (by rw [hp.disp]; exact h)

/-! #### The transport (R110, R112) -/

theorem Alike.releaseBus (h : Alike m d u v) (e : BusEvent) : Alike m d (releaseBus e u) (releaseBus e v) := by
  cases e with
  | endEv => exact h
  | _ => exact h.spared (spares_sent [.endEv])

theorem Alike.forgetTransaction (h : Alike m d u v) : Alike m d (forgetTransaction u) (forgetTransaction v) := by
  have hforget := h.forgetFrom (cellAddr u.cur.page u.txn.col0) (u.cur.col.toNat - u.txn.col0.toNat)
  obtain ⟨e, h⟩ := h
  cases hf : u.frame with
  | data => simpa only [Machine.forgetTransaction, hf] using hforget
  | _ => simpa only [Machine.forgetTransaction, hf] using Alike.differ e h

theorem Alike.transportFail (h : Alike m d u v) (e : BusEvent) : Alike m d (transportFail e u) (transportFail e v) :=
  have hforgot := (h.releaseBus e).forgetTransaction
  ((hforgot.spared spares_closeFrame).spared spares_clearCursor).spared (spares_raise .transport)

end alike

theorem blind_tryEvent (e : BusEvent) : Blind (tryEvent e) := by
  intro m d u v h
  have hsent : Alike m d (sent [e] u) (sent [e] v) := h.spared (spares_sent [e])
  have hans : v.answer v.draws = u.answer u.draws := by
    obtain ⟨-, -⟩ := h
    rfl
  cases ha : u.answer u.draws with
  | ok =>
    rw [tryEvent_ok e u ha, tryEvent_ok e v (hans.trans ha)]
    exact .going hsent
  | err =>
    rw [tryEvent_err e u ha, tryEvent_err e v (hans.trans ha)]
    exact .ended (hsent.transportFail e)

theorem blind_tryBegin : Blind tryBegin := by
  intro m d u v h
  have haddr : v.cfg.addr = u.cfg.addr := by
    obtain ⟨-, -⟩ := h
    rfl
  rw [tryBegin, tryBegin, haddr]
  exact blind_tryEvent _ m d u v h

/-! #### Parts of operations -/

theorem followedBy_next {m d : Memory} {u v : State} (h : Alike m d u v) : FollowedBy m d (.next u) (.next v) := by
  rintro t ⟨⟩
  exact ⟨v, rfl, h⟩

section attempts
variable {m d : Memory} {a b : Attempt}

theorem Attempt.Alike.bind (h : a.Alike m d b) {k : State → Attempt} (hk : Blind k) :
    (a.bind k).Alike m d (b.bind k) := by
  cases h with
  | going h => exact hk m d _ _ h
  | ended h => exact .ended h

theorem Attempt.Alike.map (h : a.Alike m d b) {p : State → State} (hp : SparesDisplay p) :
    (a.map p).Alike m d (b.map p) := by
  cases h with
  | going h => exact .going (h.spared hp)
  | ended h => exact .ended h

theorem Attempt.Alike.complete (h : a.Alike m d b) (st : Status) : FollowedBy m d (a.complete st) (b.complete st) := by
  cases h with
  | going h => exact followedBy_next (h.spared (spares_finish st))
  | ended h => exact followedBy_next h

end attempts

theorem Blind.bind {k l : State → Attempt} (hk : Blind k) (hl : Blind l) : Blind fun s => (k s).bind l :=
  fun m d _ _ h => (hk m d _ _ h).bind hl

/-- A register write before a part. -/
theorem Blind.after {k : State → Attempt} {p : State → State} (hk : Blind k) (hp : SparesDisplay p) :
    Blind fun s => k (p s) :=
  fun m d _ _ h => hk m d _ _ (h.spared hp)

/-- A register write behind a part. -/
theorem Blind.map {k : State → Attempt} {p : State → State} (hk : Blind k) (hp : SparesDisplay p) :
    Blind fun s => (k s).map p :=
  fun m d _ _ h => (hk m d _ _ h).map hp

theorem blind_going : Blind Attempt.going := fun _ _ _ _ h => .going h

theorem blind_commandByte (c : Byte) : Blind (tryCommandByte c) :=
  ((blind_tryEvent (.byteEv ctrlCmd)).after (spares_addCount 2)).bind (blind_tryEvent (.byteEv c))

theorem blind_commandBytes (g : List Byte) : Blind (tryCommandBytes g) := by
  induction g with
  | nil => exact blind_going
  | cons c g ih => exact (blind_commandByte c).bind ih

theorem blind_sendGroup (g : List Byte) : Blind (sendGroup g) :=
  (((blind_tryBegin.after (spares_openFrame .cmd 0)).bind (blind_commandBytes g)).bind
    (blind_tryEvent .endEv)).map spares_closeFrame

theorem blind_sendGroups (gs : List (List Byte)) : Blind (sendGroups gs) := by
  induction gs with
  | nil => exact blind_going
  | cons g gs ih => exact (blind_sendGroup g).bind ih

/-! #### Whole operations -/

section outcomes
variable {m d : Memory} {u v : State} {o o' : Host.Outcome State Fault Refusal}

/-- A check that reads no cell goes the same way in both runs (R201). -/
theorem FollowedBy.check (ho : FollowedBy m d o o') {c : Prop} [Decidable c] {e : ErrorCode} (h : Alike m d u v) :
    FollowedBy m d (if c then reject e u else o) (if c then reject e v else o') := by
  split
  · exact followedBy_next (h.spared (spares_raise e))
  · exact ho

/-- A part that reads no cell, and the end of the operation with it. -/
theorem Blind.followedBy {k : State → Attempt} (hk : Blind k) (h : Alike m d u v) (st : Status) :
    FollowedBy m d ((k u).complete st) ((k v).complete st) :=
  (hk m d u v h).complete st

end outcomes

theorem passthrough_followedBy (g : List Byte) (s : State) (d : Memory) :
    FollowedBy s.disp d (passthrough g s) (passthrough g { s with disp := d }) := by
  have h := alike_withDisp s d
  have hgroup := ((blind_sendGroup g).after spares_clearCursor).followedBy h .ok
  exact hgroup.check h |>.check h |>.check h

/-- DATA_BYTE writes the same byte to the same cell, or forgets the same cells, whatever the cells hold (R112, R117). -/
theorem dataByte_followedBy (v : Byte) (s : State) (d : Memory) :
    FollowedBy s.disp d (execDataByte v s) (execDataByte v { s with disp := d }) := by
  have h := alike_withDisp s d
  have hsent : (tryByte v (advanceCursor s)).Alike s.disp d (tryByte v (advanceCursor { s with disp := d })) :=
    blind_tryEvent (.byteEv v) _ _ _ _ (h.spared spares_advanceCursor)
  refine FollowedBy.check ?_ h
  split
  · exact followedBy_next (h.spared (spares_finish .clipped))
  · refine FollowedBy.check ?_ h
    generalize tryByte v (advanceCursor s) = a, tryByte v (advanceCursor { s with disp := d }) = b at hsent ⊢
    cases hsent with
    | ended h => exact followedBy_next h
    | going h =>
      by_cases hcell : cellAddr s.cur.page s.cur.col < nCells
      · simp only [memWrite_of_lt hcell]
        exact followedBy_next ((h.write _ v).spared (spares_finish .ok))
      · simp only [memWrite_of_ge (Nat.le_of_not_lt hcell)]
        exact fun _ h => nomatch h

/-- No operation reads a cell: its checks, its register writes and its bus events do not. -/
theorem exec_followedBy (i : Instr) (s : State) (d : Memory) :
    FollowedBy s.disp d (exec i s) (exec i { s with disp := d }) := by
  have h := alike_withDisp s d
  cases i with
  | config a =>
    have hset : SparesDisplay fun s => { s with cfg := { addr := a, configured := true } } := fun _ _ => rfl
    exact followedBy_next ((h.spared hset).spared (spares_finish .ok)) |>.check h |>.check h
  | initialise =>
    have hsend := ((blind_sendGroups s.config.initSeq).after spares_clearCursor).after (spares_setInitDone false)
    exact (hsend.map (spares_setInitDone true)).followedBy h .ok |>.check h |>.check h
  | beginCmd =>
    have hbegin := (blind_tryBegin.after (spares_openFrame .cmd 0)).after spares_clearCursor
    exact hbegin.followedBy h .ok |>.check h |>.check h
  | cmdByte c => exact (blind_commandByte c).followedBy h .ok |>.check h |>.check h
  | endCmd => exact ((blind_tryEvent .endEv).map spares_closeFrame).followedBy h .ok |>.check h |>.check h
  | beginData =>
    have hbegin := (blind_tryBegin.after spares_markColumn).after (spares_openFrame .data 1)
    have hopen := hbegin.bind (blind_tryEvent (.byteEv ctrlData))
    exact hopen.followedBy h .ok |>.check h |>.check h |>.check h |>.check h
  | dataByte v => exact dataByte_followedBy v s d
  | endData =>
    have hend := (blind_tryEvent .endEv).after spares_clearCursor
    exact (hend.map spares_closeFrame).followedBy h .ok |>.check h
  | sendCommand c =>
    exact ((blind_sendGroup [c]).after spares_clearCursor).followedBy h .ok |>.check h |>.check h
  | setPosition r c =>
    have hsend := (blind_sendGroups (positionGroups s.config.cmdEnc r c)).after spares_clearCursor
    have hset := hsend.map (spares_setCursor (rowPage r) c)
    exact hset.followedBy h .ok |>.check h |>.check h |>.check h |>.check h
  | setContrast l => exact passthrough_followedBy _ s d
  | invertScreen f => exact passthrough_followedBy _ s d
  | sleep f => exact passthrough_followedBy _ s d

end Sys2Proof.Machine
end

section
/-! PROOFS. The statements about memory and the bus log (20_memory.md). -/

open Sys2Proof Sys2Proof.Machine

/-- Settles O56: a reset leaves a closed LOG, and every way an operation can end appends events that lead from the phase of
FRAME before it to the phase of FRAME after it. -/
theorem stepKeepsTheLogWellFormed : Obligations.StepKeepsTheLogWellFormed := by
  intro s t hs hblock h
  cases hk : s.resetReq with
  | some k =>
    rw [step_of_reset hk] at h
    injection h with h
    exact h ▸ logInv_takeReset hs fun hkb => hblock (hkb ▸ hk)
  | none =>
    obtain ⟨u, hu, rfl⟩ := step_did hk h
    exact hu.logInv hs

/-- Settles O57: a reset empties the display memory or leaves it, and an operation leaves it, writes an existing cell or
forgets cells. -/
theorem stepKeepsTheDisplayCanonical : Obligations.StepKeepsTheDisplayCanonical := by
  intro s t hs h
  rcases step_cases h with ⟨k, rfl⟩ | ⟨u, hu, rfl⟩
  · exact disp_wf_takeReset k hs
  · exact hu.disp_wf hs

/-- Settles O42: of the ways an operation can end, only those of DATA_BYTE and END_DATA write or forget a cell. -/
theorem commandBytesNeverChangeTheDisplay : Obligations.CommandBytesNeverChangeTheDisplay :=
  fun i s t hi h => (exec_did i s t h).disp_of_not_touchesDisplay hi

/-- Settles O48: the two runs stay alike through every part of the operation. -/
theorem displayNeverInfluencesTheBlock : Obligations.DisplayNeverInfluencesTheBlock := by
  intro i s t d h
  obtain ⟨w, hw, m, hcells⟩ := exec_followedBy i s d t h
  exact ⟨m, hw, hcells⟩

/-- Settles O49: a write to an existing cell is `Memory.write`, so the cell reads as `Memory.read_write` says. -/
theorem cellReadsAsLastWritten : Obligations.CellReadsAsLastWritten := by
  intro a v s
  refine ⟨fun ha => ⟨_, memWrite_of_lt ha v s, ?_, fun b hb => ?_, rfl⟩,
    fun ha => ⟨memWrite_of_ge ha v s, memRead_of_ge ha s⟩⟩
  · exact memRead_of_known ha ((Memory.read_write s.disp a a v).trans (if_pos rfl))
  · exact memRead_congr ((Memory.read_write s.disp a b v).trans (if_neg hb))

/-- Settles O50: after reset no cell is listed, so every one is Unknown. -/
theorem unknownCellsCannotBeRead : Obligations.UnknownCellsCannotBeRead :=
  ⟨fun _ _ ha h => memRead_of_unknown ha h, fun a ha => memRead_of_unknown ha (Memory.read_nil a)⟩
end

section
/-! SUPPORT. An operation word taken apart and put together again: its opcode, its must-be-zero fields under their masks, and
its fields behind each encoder (30_encoding.md sections 2 to 4). -/

namespace Sys2Proof

/-! ### The fields of a word -/

/-- The `len` bits from `start` on are all 0 exactly if the word is 0 under their mask. -/
theorem extractLsb'_eq_zero_iff_and_mask {n : Nat} (w : BitVec n) (start len : Nat) (h : start + len ≤ n) :
    w.extractLsb' start len = 0#len ↔ w &&& ((BitVec.allOnes len).setWidth n <<< start) = 0#n := by
  simp only [BitVec.eq_of_getLsbD_eq_iff, BitVec.getLsbD_extractLsb', BitVec.getLsbD_and, BitVec.getLsbD_zero,
    BitVec.getLsbD_shiftLeft, BitVec.getLsbD_setWidth, BitVec.getLsbD_allOnes]
  constructor
  · intro hfield j hj
    have hbit := hfield (j - start)
    grind
  · intro hmask i hi
    have hbit := hmask (start + i) (by omega)
    grind

theorem zeroN_eq_true_iff {w : OpWord} : zeroN w = true ↔ w &&& 0x0FFF#16 = 0#16 :=
  decide_eq_true_iff.trans (extractLsb'_eq_zero_iff_and_mask w 0 12 (by decide))

theorem zeroB_eq_true_iff {w : OpWord} : zeroB w = true ↔ w &&& 0x0F00#16 = 0#16 :=
  decide_eq_true_iff.trans (extractLsb'_eq_zero_iff_and_mask w 8 4 (by decide))

theorem zeroF_eq_true_iff {w : OpWord} : zeroF w = true ↔ w &&& 0x0FFE#16 = 0#16 :=
  decide_eq_true_iff.trans (extractLsb'_eq_zero_iff_and_mask w 1 11 (by decide))

theorem zeroA_eq_true_iff {w : OpWord} : zeroA w = true ↔ w &&& 0x0F80#16 = 0#16 :=
  decide_eq_true_iff.trans (extractLsb'_eq_zero_iff_and_mask w 7 5 (by decide))

theorem shiftRight_toNat_eq_opcode (w : OpWord) : (w >>> 12).toNat = (opcode w).toNat := by
  have hw : w.toNat / 2 ^ 12 < 2 ^ 4 := by have := w.isLt; omega
  simp only [opcode, BitVec.toNat_ushiftRight, BitVec.extractLsb'_toNat, Nat.shiftRight_eq_div_pow,
    Nat.mod_eq_of_lt hw]

/-- A word is its opcode and the bits behind it (R85). -/
theorem opcode_append_low (w : OpWord) : opcode w ++ w.extractLsb' 0 12 = w :=
  (BitVec.extractLsb'_append_extractLsb'_eq_extractLsb' (by decide)).trans BitVec.extractLsb'_eq_self

theorem ofBool_decide_eq_one : ∀ x : BitVec 1, BitVec.ofBool (decide (x = 1#1)) = x := by decide

/-! ### The word whose fields have been read

Each format's encoder puts back what the decoder read, provided the must-be-zero field is zero. -/

section
variable {w : OpWord} {op : BitVec 4} (hop : (opcode w).toNat = op.toNat)
include hop

theorem append_low_of_opcode {x : BitVec 12} (hx : x = w.extractLsb' 0 12) : op ++ x = w := by
  rw [← BitVec.eq_of_toNat_eq hop, hx, opcode_append_low]

theorem encodeN_of_zeroN (hz : zeroN w = true) : encodeN op = w :=
  append_low_of_opcode hop (of_decide_eq_true hz).symm

theorem encodeB_of_zeroB (hz : zeroB w = true) : encodeB op (imm8 w) = w := by
  have hfield : w.extractLsb' 8 4 = 0#4 := of_decide_eq_true hz
  refine append_low_of_opcode hop ?_
  rw [← hfield]
  exact BitVec.extractLsb'_append_extractLsb'_eq_extractLsb' rfl

theorem encodeF_of_zeroF (hz : zeroF w = true) : encodeF op (flagField w) = w := by
  have hfield : w.extractLsb' 1 11 = 0#11 := of_decide_eq_true hz
  have hflag : BitVec.ofBool (flagField w) = w.extractLsb' 0 1 := ofBool_decide_eq_one (w.extractLsb' 0 1)
  refine append_low_of_opcode hop ?_
  rw [← hfield, hflag]
  exact BitVec.extractLsb'_append_extractLsb'_eq_extractLsb' rfl

theorem encodeP_of_opcode : encodeP op (rowField w) (imm8 w) = w :=
  append_low_of_opcode hop (BitVec.extractLsb'_append_extractLsb'_eq_extractLsb' rfl)

theorem encodeA_of_zeroA (hz : zeroA w = true) : encodeA op (addr7Field w) = w := by
  have hfield : w.extractLsb' 7 5 = 0#5 := of_decide_eq_true hz
  refine append_low_of_opcode hop ?_
  rw [← hfield]
  exact BitVec.extractLsb'_append_extractLsb'_eq_extractLsb' rfl

end

/-! ### Words under the masks of the opcode table -/

/-- A word under a mask that covers its opcode is `op` and zeros exactly if its opcode is `op` and the rest of the mask finds
zeros. -/
theorem and_mask_eq_iff {w : OpWord} {op : BitVec 4} {m : BitVec 12} :
    w &&& (0xF#4 ++ m : BitVec 16) = op ++ 0#12 ↔ opcode w = op ∧ w &&& (0#4 ++ m : BitVec 16) = 0#16 := by
  have hmask (mo : BitVec 4) : w &&& (mo ++ m : BitVec 16) = (opcode w &&& mo) ++ (w.extractLsb' 0 12 &&& m) :=
    (congrArg (· &&& (mo ++ m : BitVec 16)) (opcode_append_low w).symm).trans (word_and_mask _ mo _ m)
  rw [hmask, hmask, BitVec.and_zero, show (0xF#4) = BitVec.allOnes 4 from rfl, BitVec.and_allOnes]
  constructor
  · intro h
    have hop : opcode w = op := by simpa only [opcode_append] using congrArg opcode h
    have hlow : w.extractLsb' 0 12 &&& m = 0#12 := (BitVec.append_right_inj op).1 (hop ▸ h)
    exact ⟨hop, congrArg (0#4 ++ ·) hlow⟩
  · rintro ⟨rfl, h⟩
    exact congrArg (opcode w ++ ·) ((BitVec.append_right_inj 0#4).1 h)

end Sys2Proof
end

section
/-! SUPPORT. What the decoder answers, said once: it inverts the encoder both ways, selects the rows of the opcode table, and
rejects for the two reasons of R92 and R93 (30_encoding.md sections 3 and 4). -/

namespace Sys2Proof

/-! ### The must-be-zero check -/

theorem needZero_eq_ok_iff {zero : Bool} {i j : Instr} : needZero zero i = .ok j ↔ zero = true ∧ i = j := by
  cases zero <;> simp [needZero]

theorem needZero_ne_reservedOpcode (zero : Bool) (i : Instr) : needZero zero i ≠ .error .reservedOpcode := by
  cases zero <;> simp [needZero]

theorem needZero_eq_mustBeZero_iff {zero : Bool} {i : Instr} : needZero zero i = .error .mustBeZero ↔ zero = false := by
  cases zero <;> simp [needZero]

/-! ### Decoder and encoder -/

/-- Every field of an operation's word reads as the operand it was made from, and its must-be-zero field as 0. -/
theorem decode_encode (i : Instr) : decode (encode i) = .ok i := by
  cases i <;> simp [encode, decode, needZero]

theorem encode_of_needZero_eq_ok {w : OpWord} {zero : Bool} {i j : Instr} (h : needZero zero i = .ok j)
    (hi : zero = true → encode i = w) : encode j = w := by
  obtain ⟨hz, rfl⟩ := needZero_eq_ok_iff.1 h
  exact hi hz

theorem encode_of_decode_eq_ok {w : OpWord} {i : Instr} (h : decode w = .ok i) : encode i = w := by
  unfold decode at h
  split at h
  case h_1 hop => exact encode_of_needZero_eq_ok h (encodeA_of_zeroA hop)
  case h_2 hop => exact encode_of_needZero_eq_ok h (encodeN_of_zeroN hop)
  case h_3 hop => exact encode_of_needZero_eq_ok h (encodeN_of_zeroN hop)
  case h_4 hop => exact encode_of_needZero_eq_ok h (encodeB_of_zeroB hop)
  case h_5 hop => exact encode_of_needZero_eq_ok h (encodeN_of_zeroN hop)
  case h_6 hop => exact encode_of_needZero_eq_ok h (encodeN_of_zeroN hop)
  case h_7 hop => exact encode_of_needZero_eq_ok h (encodeB_of_zeroB hop)
  case h_8 hop => exact encode_of_needZero_eq_ok h (encodeN_of_zeroN hop)
  case h_9 hop => exact encode_of_needZero_eq_ok h (encodeB_of_zeroB hop)
  case h_10 hop =>
    injection h with h
    exact h ▸ encodeP_of_opcode hop
  case h_11 hop => exact encode_of_needZero_eq_ok h (encodeB_of_zeroB hop)
  case h_12 hop => exact encode_of_needZero_eq_ok h (encodeF_of_zeroF hop)
  case h_13 hop => exact encode_of_needZero_eq_ok h (encodeF_of_zeroF hop)
  case h_14 => nomatch h

/-- The decoder accepts exactly the words the encoder gives (R94). -/
theorem decode_eq_ok_iff {w : OpWord} {i : Instr} : decode w = .ok i ↔ encode i = w :=
  ⟨encode_of_decode_eq_ok, fun h => h ▸ decode_encode i⟩

theorem encode_injective : Function.Injective encode := fun i _ h =>
  Except.ok.inj ((decode_encode i).symm.trans (decode_eq_ok_iff.2 h.symm))

/-! ### The rows of the opcode table -/

section
variable {w : OpWord} (op : BitVec 4)

theorem encodeN_of_selects (h : w &&& 0xFFFF#16 = op ++ 0#12) : encodeN op = w := by
  obtain ⟨rfl, hz⟩ := (and_mask_eq_iff (m := 0xFFF)).1 h
  exact encodeN_of_zeroN rfl (zeroN_eq_true_iff.2 hz)

theorem encodeB_of_selects (h : w &&& 0xFF00#16 = op ++ 0#12) : encodeB op (imm8 w) = w := by
  obtain ⟨rfl, hz⟩ := (and_mask_eq_iff (m := 0xF00)).1 h
  exact encodeB_of_zeroB rfl (zeroB_eq_true_iff.2 hz)

theorem encodeF_of_selects (h : w &&& 0xFFFE#16 = op ++ 0#12) : encodeF op (flagField w) = w := by
  obtain ⟨rfl, hz⟩ := (and_mask_eq_iff (m := 0xFFE)).1 h
  exact encodeF_of_zeroF rfl (zeroF_eq_true_iff.2 hz)

theorem encodeP_of_selects (h : w &&& 0xF000#16 = op ++ 0#12) : encodeP op (rowField w) (imm8 w) = w := by
  obtain ⟨rfl, -⟩ := (and_mask_eq_iff (m := 0x000)).1 h
  exact encodeP_of_opcode rfl

theorem encodeA_of_selects (h : w &&& 0xFF80#16 = op ++ 0#12) : encodeA op (addr7Field w) = w := by
  obtain ⟨rfl, hz⟩ := (and_mask_eq_iff (m := 0xF80)).1 h
  exact encodeA_of_zeroA rfl (zeroA_eq_true_iff.2 hz)

end

/-- A word that selects a row is the word of an operation of that row: of the one its fields name. -/
theorem exists_encode_of_selects {w : OpWord} {r : Row} (hr : r ∈ opcodeTable) (h : r.selects w = true) :
    ∃ i, encode i = w ∧ mnemonic i = r.mnemonic := by
  have hw : w &&& r.mask = r.pattern := of_decide_eq_true h
  simp only [opcodeTable, List.mem_cons, List.not_mem_nil, or_false] at hr
  rcases hr with rfl | rfl | rfl | rfl | rfl | rfl | rfl | rfl | rfl | rfl | rfl | rfl | rfl
  · exact ⟨.config (addr7Field w), encodeA_of_selects 0x1 hw, rfl⟩
  · exact ⟨.initialise, encodeN_of_selects 0x2 hw, rfl⟩
  · exact ⟨.beginCmd, encodeN_of_selects 0x3 hw, rfl⟩
  · exact ⟨.cmdByte (imm8 w), encodeB_of_selects 0x4 hw, rfl⟩
  · exact ⟨.endCmd, encodeN_of_selects 0x5 hw, rfl⟩
  · exact ⟨.beginData, encodeN_of_selects 0x6 hw, rfl⟩
  · exact ⟨.dataByte (imm8 w), encodeB_of_selects 0x7 hw, rfl⟩
  · exact ⟨.endData, encodeN_of_selects 0x8 hw, rfl⟩
  · exact ⟨.sendCommand (imm8 w), encodeB_of_selects 0x9 hw, rfl⟩
  · exact ⟨.setPosition (rowField w) (imm8 w), encodeP_of_selects 0xA hw, rfl⟩
  · exact ⟨.setContrast (imm8 w), encodeB_of_selects 0xB hw, rfl⟩
  · exact ⟨.invertScreen (flagField w), encodeF_of_selects 0xC hw, rfl⟩
  · exact ⟨.sleep (flagField w), encodeF_of_selects 0xD hw, rfl⟩

theorem exists_row_selects_encode (i : Instr) : Laws.RowSelects.Statement i := by
  cases i with
  | config a => exact Laws.RowSelects.config a
  | initialise => exact Laws.RowSelects.initialise
  | beginCmd => exact Laws.RowSelects.beginCmd
  | cmdByte c => exact Laws.RowSelects.cmdByte c
  | endCmd => exact Laws.RowSelects.endCmd
  | beginData => exact Laws.RowSelects.beginData
  | dataByte v => exact Laws.RowSelects.dataByte v
  | endData => exact Laws.RowSelects.endData
  | sendCommand c => exact Laws.RowSelects.sendCommand c
  | setPosition r c => exact Laws.RowSelects.setPosition r c
  | setContrast l => exact Laws.RowSelects.setContrast l
  | invertScreen f => exact Laws.RowSelects.invertScreen f
  | sleep f => exact Laws.RowSelects.sleep f

theorem opcodeTable_mnemonics_nodup : (opcodeTable.map Row.mnemonic).Nodup := by decide

/-- The rows of the opcode table describe the encoder (R91). -/
theorem selects_iff_exists_encode {w : OpWord} {r : Row} (hr : r ∈ opcodeTable) :
    r.selects w = true ↔ ∃ i, encode i = w ∧ mnemonic i = r.mnemonic := by
  refine ⟨exists_encode_of_selects hr, ?_⟩
  rintro ⟨i, rfl, hm⟩
  obtain ⟨q, hq, hqm, hsel⟩ := exists_row_selects_encode i
  exact List.inj_on_of_nodup_map opcodeTable_mnemonics_nodup hq hr (hqm.trans hm) ▸ hsel

/-! ### Illegal words (R92, R93) -/

theorem decode_eq_reservedOpcode_iff {w : OpWord} :
    decode w = .error .reservedOpcode ↔ (opcode w).toNat = 0 ∨ (opcode w).toNat = 14 ∨ (opcode w).toNat = 15 := by
  have hlt := (opcode w).isLt
  unfold decode
  split
  case h_14 => exact iff_of_true rfl (by grind)
  all_goals simp [needZero_ne_reservedOpcode, *]

theorem decode_eq_mustBeZero_iff {w : OpWord} :
    decode w = .error .mustBeZero ↔
      ((opcode w).toNat ∈ [2, 3, 5, 6, 8] ∧ zeroN w = false) ∨ ((opcode w).toNat ∈ [4, 7, 9, 11] ∧ zeroB w = false) ∨
      ((opcode w).toNat ∈ [12, 13] ∧ zeroF w = false) ∨ ((opcode w).toNat = 1 ∧ zeroA w = false) := by
  unfold decode
  split
  case h_14 =>
    exact iff_of_false (nomatch ·) (by grind)
  all_goals simp [needZero_eq_mustBeZero_iff, *]

namespace Machine

theorem hasReservedOpcode_iff {w : OpWord} : hasReservedOpcode w ↔ decode w = .error .reservedOpcode := by
  have hop (n : Nat) (hn : n < 2 ^ 16) : w >>> 12 = BitVec.ofNat 16 n ↔ (opcode w).toNat = n := by
    rw [← shiftRight_toNat_eq_opcode, ← BitVec.toNat_inj, BitVec.toNat_ofNat, Nat.mod_eq_of_lt hn]
  rw [decode_eq_reservedOpcode_iff, ← hop 0 (by decide), ← hop 14 (by decide), ← hop 15 (by decide)]

theorem hasNonzeroField_iff {w : OpWord} : hasNonzeroField w ↔ decode w = .error .mustBeZero := by
  rw [decode_eq_mustBeZero_iff]
  simp only [hasNonzeroField, shiftRight_toNat_eq_opcode, ← Bool.not_eq_true, zeroN_eq_true_iff, zeroB_eq_true_iff,
    zeroF_eq_true_iff, zeroA_eq_true_iff, ne_eq]

/-- An illegal word raises ERR_ILLEGAL (R92, R93). -/
theorem runWord_of_illegal {w : OpWord} (h : hasReservedOpcode w ∨ hasNonzeroField w) (s : State) :
    runWord w s = .next (rejected .illegal s) := by
  rw [hasReservedOpcode_iff, hasNonzeroField_iff] at h
  rcases h with h | h <;> simp only [runWord, h] <;> rfl

end Machine
end Sys2Proof
end

section
/-! PROOFS. The statements about the decoder (30_encoding.md sections 2 to 4). -/

open Sys2Proof Sys2Proof.Machine

/-- Settles O1: the decoder's fields read back what each encoder put there. -/
theorem decodeOfEncodeIsTheOperation : Obligations.DecodeOfEncodeIsTheOperation := decode_encode

/-- Settles O2: a word's opcode and fields, with the must-be-zero field zero, make up the whole word. -/
theorem onlyItsOwnWordDecodesToAnOperation : Obligations.OnlyItsOwnWordDecodesToAnOperation :=
  fun _ _ h => encode_of_decode_eq_ok h

/-- Settles O3: both sides say that the word is that of an operation of the row. -/
theorem decoderAgreesWithTheOpcodeTable : Obligations.DecoderAgreesWithTheOpcodeTable := by
  intro w r hr
  simp only [selects_iff_exists_encode hr, decode_eq_ok_iff]

/-- Settles O4: the rows a word selects have the mnemonic of the one operation it decodes to. -/
theorem opcodeRowsAreDisjoint : Obligations.OpcodeRowsAreDisjoint := by
  refine (List.pairwise_map.1 opcodeTable_mnemonics_nodup).imp_of_mem fun {r q} hr hq hne w ⟨hrw, hqw⟩ => hne ?_
  obtain ⟨i, hi, hir⟩ := exists_encode_of_selects hr hrw
  obtain ⟨j, hj, hjq⟩ := exists_encode_of_selects hq hqw
  rw [← hir, ← hjq, encode_injective (hi.trans hj.symm)]

/-- Settles O5: the decoder's opcode and must-be-zero fields are the word's bits under a shift and the formats' masks. -/
theorem illegalWordsAreReservedOrNonzero : Obligations.IllegalWordsAreReservedOrNonzero :=
  fun _ => ⟨hasReservedOpcode_iff.symm, hasNonzeroField_iff.symm⟩

/-- Settles O13: the step is that of a word the decoder rejects. -/
theorem illegalWordRaisesErrIllegal : Obligations.IllegalWordRaisesErrIllegal := by
  intro s w h0 hw hill
  rw [step_of_word h0 hw, runWord_of_illegal hill]
  rfl

/-- Settles O6, by evaluation. -/
theorem sampleWordsDecodeAsTheSpecSays : Obligations.SampleWordsDecodeAsTheSpecSays := by
  unfold Obligations.SampleWordsDecodeAsTheSpecSays
  decide
end

section
/-! SUPPORT. The assembler's words as numbers: each format is its opcode's bits ORed with its operands, and a statement is
refused exactly where an operand does not fit (30_encoding.md R97, R98). -/

namespace Sys2Proof

/-! ### An encoded word is its opcode OR its operands -/

theorem append_eq_or (op : BitVec 4) (x : BitVec 12) : op ++ x = (op ++ 0#12 : OpWord) ||| x.setWidth 16 := by
  have hx : x.setWidth 16 = (0#4 ++ x : OpWord) := BitVec.setWidth_eq_append (by decide)
  rw [hx, BitVec.or_append, BitVec.or_zero, BitVec.zero_or]

theorem setWidth_zero_append {k n m : Nat} (x : BitVec n) : (0#k ++ x).setWidth m = x.setWidth m := by
  rw [BitVec.setWidth_append_eq_shiftLeft_setWidth_or, BitVec.setWidth_zero, BitVec.zero_shiftLeft, BitVec.zero_or]

theorem encodeB_eq_or (op : BitVec 4) (b : Byte) : encodeB op b = (op ++ 0#12 : OpWord) ||| b.setWidth 16 := by
  rw [encodeB, append_eq_or, setWidth_zero_append]

theorem encodeF_eq_or (op : BitVec 4) (f : Bool) :
    encodeF op f = (op ++ 0#12 : OpWord) ||| (BitVec.ofBool f).setWidth 16 := by
  rw [encodeF, append_eq_or, setWidth_zero_append]

theorem encodeP_eq_or (op r : BitVec 4) (c : BitVec 8) :
    encodeP op r c = (op ++ 0#12 : OpWord) ||| (r.setWidth 16 <<< 8) ||| c.setWidth 16 := by
  rw [encodeP, append_eq_or, BitVec.setWidth_append_eq_shiftLeft_setWidth_or, BitVec.or_assoc]

theorem encodeA_eq_or (op : BitVec 4) (a : Addr7) : encodeA op a = (op ++ 0#12 : OpWord) ||| a.setWidth 16 := by
  rw [encodeA, append_eq_or, setWidth_zero_append]

/-! ### Operands that fit -/

theorem fits_iff {w n : Nat} : fits w n = true ↔ n < 2 ^ w := decide_eq_true_iff

/-- The operands of a list statement fit their fields, and there is one (R98). -/
theorem bytesFit_iff {ds : List Nat} : (!ds.isEmpty && ds.all (fits 8)) = true ↔ ds ≠ [] ∧ ∀ d ∈ ds, d < 256 := by
  simp [fits]

theorem writeAt_wf_iff {r c : Nat} {ds : List Nat} :
    (Stmt.writeAt r c ds).wf = true ↔ r < 16 ∧ c < 256 ∧ ds ≠ [] ∧ ∀ d ∈ ds, d < 256 := by
  rw [Stmt.wf, Bool.and_assoc, Bool.and_assoc, Bool.and_eq_true_iff, Bool.and_eq_true_iff, fits_iff, fits_iff,
    bytesFit_iff]
  rfl

section
variable (op : BitVec 4) {n : Nat}

theorem encodeB_ofNat (h : n < 256) :
    encodeB op (BitVec.ofNat 8 n) = (op ++ 0#12 : OpWord) ||| BitVec.ofNat 16 n := by
  rw [encodeB_eq_or, BitVec.setWidth_ofNat_of_le_of_lt (by decide) h]

theorem encodeA_ofNat (h : n < 128) :
    encodeA op (BitVec.ofNat 7 n) = (op ++ 0#12 : OpWord) ||| BitVec.ofNat 16 n := by
  rw [encodeA_eq_or, BitVec.setWidth_ofNat_of_le_of_lt (by decide) h]

theorem encodeP_ofNat {r : Nat} (hr : r < 16) (h : n < 256) :
    encodeP op (BitVec.ofNat 4 r) (BitVec.ofNat 8 n) =
      (op ++ 0#12 : OpWord) ||| (BitVec.ofNat 16 r <<< 8) ||| BitVec.ofNat 16 n := by
  rw [encodeP_eq_or, BitVec.setWidth_ofNat_of_le_of_lt (by decide) hr, BitVec.setWidth_ofNat_of_le_of_lt (by decide) h]

theorem encodeF_ofNat (h : n < 2) : encodeF op (n == 1) = (op ++ 0#12 : OpWord) ||| BitVec.ofNat 16 n := by
  rw [encodeF_eq_or]
  obtain rfl | rfl : n = 0 ∨ n = 1 := by omega
  · rfl
  · rfl

end

/-- One word a byte (R98). -/
theorem map_encode_bytes {f : Byte → Instr} {op : BitVec 4} (hf : ∀ b, encode (f b) = encodeB op b) {ds : List Nat}
    (h : ∀ d ∈ ds, d < 256) :
    (ds.map fun d => f (BitVec.ofNat 8 d)).map encode = ds.map fun d => (op ++ 0#12 : OpWord) ||| BitVec.ofNat 16 d := by
  rw [List.map_map]
  exact List.map_congr_left fun d hd => (hf _).trans (encodeB_ofNat op (h d hd))

theorem map_encode_cmdByte {cs : List Nat} (h : ∀ c ∈ cs, c < 256) :
    (cs.map fun c => Instr.cmdByte (BitVec.ofNat 8 c)).map encode = cs.map fun c => 0x4000#16 ||| BitVec.ofNat 16 c :=
  map_encode_bytes (op := 0x4) (fun _ => rfl) h

theorem map_encode_dataByte {ds : List Nat} (h : ∀ d ∈ ds, d < 256) :
    (ds.map fun d => Instr.dataByte (BitVec.ofNat 8 d)).map encode = ds.map fun d => 0x7000#16 ||| BitVec.ofNat 16 d :=
  map_encode_bytes (op := 0x7) (fun _ => rfl) h

/-! ### What the assembler answers -/

theorem assemble_eq_some_iff {st : Stmt} {ws : List OpWord} :
    assemble st = some ws ↔ st.wf = true ∧ st.instrs.map encode = ws := by
  simp [assemble]

/-- A statement whose check is `p` and whose words are `ws` where `p` holds. -/
theorem assemble_eq_ite {st : Stmt} {p : Prop} [Decidable p] {ws : List OpWord} (hp : st.wf = true ↔ p)
    (hws : p → st.instrs.map encode = ws) : assemble st = if p then some ws else none := by
  split
  next h => exact assemble_eq_some_iff.2 ⟨hp.2 h, hws h⟩
  next h => exact if_neg (mt hp.1 h)

/-- A statement of one word. -/
theorem assemble_eq_ite_one {st : Stmt} {i : Instr} {p : Prop} [Decidable p] {w : OpWord} (hi : st.instrs = [i])
    (hp : st.wf = true ↔ p) (hw : p → encode i = w) : assemble st = if p then some [w] else none :=
  assemble_eq_ite hp fun h => by rw [hi, List.map_singleton, hw h]

end Sys2Proof
end

section
/-! PROOFS. The statements about the assembler (30_encoding.md section 6). -/

open Sys2Proof

/-- Settles O58: each statement is one operation, whose word is its opcode OR its operands. -/
theorem assemblerGivesTheWordsOfTheSpec : Obligations.AssemblerGivesTheWordsOfTheSpec :=
  ⟨fun _ => assemble_eq_ite_one rfl fits_iff (encodeA_ofNat 0x1),
    rfl, rfl,
    fun _ => assemble_eq_ite_one rfl fits_iff (encodeB_ofNat 0x4),
    rfl, rfl,
    fun _ => assemble_eq_ite_one rfl fits_iff (encodeB_ofNat 0x7),
    rfl,
    fun _ => assemble_eq_ite_one rfl fits_iff (encodeB_ofNat 0x9),
    fun _ _ => assemble_eq_ite_one rfl (Bool.and_eq_true_iff.trans (and_congr fits_iff fits_iff))
      fun h => encodeP_ofNat 0xA h.1 h.2,
    fun _ => assemble_eq_ite_one rfl fits_iff (encodeB_ofNat 0xB),
    fun _ => assemble_eq_ite_one rfl fits_iff (encodeF_ofNat 0xC),
    fun _ => assemble_eq_ite_one rfl fits_iff (encodeF_ofNat 0xD)⟩

/-- Settles O59: the list's bytes give one word each, between the words that bracket them. -/
theorem assemblerExpandsThePseudoInstructions : Obligations.AssemblerExpandsThePseudoInstructions := by
  refine ⟨fun ds => ?_, fun cs => ?_, fun r c ds => ?_⟩
  · exact assemble_eq_ite bytesFit_iff fun ⟨_, hfit⟩ => map_encode_dataByte hfit
  · refine assemble_eq_ite bytesFit_iff fun ⟨_, hfit⟩ => ?_
    simp only [Stmt.instrs, List.map_append, List.map_cons, map_encode_cmdByte hfit]
    rfl
  · refine assemble_eq_ite writeAt_wf_iff fun ⟨hr, hc, _, hfit⟩ => ?_
    have hposition : encode (.setPosition (BitVec.ofNat 4 r) (BitVec.ofNat 8 c)) =
        0xA000#16 ||| (BitVec.ofNat 16 r <<< 8) ||| BitVec.ofNat 16 c := encodeP_ofNat 0xA hr hc
    simp only [Stmt.instrs, List.map_append, List.map_cons, map_encode_dataByte hfit, hposition]
    rfl

/-- Settles O7: the words are the encoded operations, and each decodes back. -/
theorem assembledWordsDecodeBack : Obligations.AssembledWordsDecodeBack := by
  intro st ws h
  obtain ⟨-, rfl⟩ := assemble_eq_some_iff.1 h
  rw [List.map_map]
  exact List.map_congr_left fun i _ => decode_encode i
end

section
/-! SUPPORT. Reading a log back (30_encoding.md R99): a transaction's events split off as that transaction, and its payload's
first byte says its kind. -/

namespace Sys2Proof.Machine

/-- An open transaction takes up its bytes until End closes it. -/
theorem splitLog_bytes (a8 : Byte) (p bs : List Byte) (es : List BusEvent) :
    splitLog (some ⟨a8, p⟩) (bs.map .byteEv ++ .endEv :: es) = (splitLog none es).map (⟨a8, p ++ bs⟩ :: ·) := by
  induction bs generalizing p with
  | nil => simp only [List.map_nil, List.nil_append, List.append_nil, splitLog]
  | cons b bs ih =>
    rw [List.map_cons, List.cons_append, splitLog, ih, List.append_assoc, List.singleton_append]

theorem splitLog_events_append (t : Transaction) (es : List BusEvent) :
    splitLog none (t.events ++ es) = (splitLog none es).map (t :: ·) := by
  rw [Transaction.events, List.append_assoc, List.cons_append, splitLog]
  exact splitLog_bytes t.a8 [] t.payload es

theorem splitLog_flatMap_events (ts : List Transaction) : splitLog none (ts.flatMap Transaction.events) = some ts := by
  induction ts with
  | nil => rfl
  | cons t ts ih => rw [List.flatMap_cons, splitLog_events_append, ih, Option.map_some]

theorem commandBytes_commandPayload (cs : List Byte) : commandBytes (commandPayload cs) = some cs := by
  induction cs with
  | nil => rfl
  | cons c cs ih => rw [commandPayload, commandBytes, if_pos rfl, ih, Option.map_some]

theorem commandBytes_commandPayload_cut (cs : List Byte) : commandBytes (commandPayload cs ++ [ctrlCmd]) = none := by
  induction cs with
  | nil => rfl
  | cons c cs ih =>
    rw [commandPayload, List.cons_append, List.cons_append, commandBytes, if_pos rfl, ih, Option.map_none]

theorem alternates_commandPayload_cut (cs : List Byte) : alternates (commandPayload cs ++ [ctrlCmd]) = true := by
  induction cs with
  | nil => rfl
  | cons c cs ih => rw [commandPayload, List.cons_append, List.cons_append, alternates, ih]; rfl

section
variable {b : Byte} {bs : List Byte} (hb : b ≠ ctrlData)
include hb

theorem frameOf_of_commandBytes_eq_some {cs : List Byte} (h : commandBytes (b :: bs) = some cs) :
    frameOf (b :: bs) = .command cs := by
  simp only [frameOf, if_neg hb, h]

theorem frameOf_of_alternates (h : commandBytes (b :: bs) = none) (halt : alternates (b :: bs) = true) :
    frameOf (b :: bs) = .aborted (b :: bs) := by
  simp only [frameOf, if_neg hb, h, if_pos halt]

end

theorem frameOf_commandPayload {cs : List Byte} (h : cs ≠ []) : frameOf (commandPayload cs) = .command cs := by
  cases cs with
  | nil => exact absurd rfl h
  | cons c cs => exact frameOf_of_commandBytes_eq_some (by decide) (commandBytes_commandPayload (c :: cs))

theorem commandPayload_cut_eq_cons (cs : List Byte) : ∃ bs, commandPayload cs ++ [ctrlCmd] = ctrlCmd :: bs := by
  cases cs with
  | nil => exact ⟨_, rfl⟩
  | cons c cs => exact ⟨_, rfl⟩

theorem frameOf_commandPayload_cut (cs : List Byte) :
    frameOf (commandPayload cs ++ [ctrlCmd]) = .aborted (commandPayload cs ++ [ctrlCmd]) := by
  obtain ⟨bs, hbs⟩ := commandPayload_cut_eq_cons cs
  rw [hbs]
  exact frameOf_of_alternates (by decide) (hbs ▸ commandBytes_commandPayload_cut cs)
    (hbs ▸ alternates_commandPayload_cut cs)

theorem frameOf_dataPayload (ds : List Byte) : frameOf (dataPayload ds) = .data ds := by
  rw [dataPayload, frameOf, if_pos rfl]

end Sys2Proof.Machine
end

section
/-! SUPPORT. The operations of a command frame whose events are all acknowledged: the state each ends in (R113 to R115,
R119). -/

namespace Sys2Proof.Machine

/-- A part that sends its events and is acknowledged ends the operation with its register writes. -/
theorem Sends.complete {a : Addr7} {k : State → Attempt} {es : List BusEvent} {p : State → State} (h : Sends a k es p)
    {s : State} (ha : s.cfg.addr = a) (hf : s.frame ≠ .data) (hk : acked es.length s) :
    (k s).complete .ok = .next (finish .ok (p (sent es s))) := by
  rw [h.ok s ha hf hk, Attempt.complete]

theorem exec_beginCmd_of_acked {s : State} (hc : s.cfg.configured = true) (hf : s.frame = .idle) (h : acked 1 s) :
    exec .beginCmd s = .next { sent [.beginEv (addrByte s.cfg.addr)] s with
      cur.valid := false, frame := .cmd, txn.count := 0, status := .ok } := by
  have hsends := (sends_begin s.cfg.addr).after ((quiet_openCmd 0).comp quiet_clearCursor)
  simp only [exec, execBeginCmd, hc, hf, ne_eq, not_true_eq_false, if_false, Bool.true_eq_false]
  exact hsends.complete rfl (by simp [hf]) h

theorem exec_cmdByte_of_acked {c : Byte} {s : State} (hf : s.frame = .cmd)
    (hn : s.config.txnCap.admits (s.txn.count + 2) = true) (h : acked 2 s) :
    exec (.cmdByte c) s = .next { sent [.byteEv 0x00, .byteEv c] s with
      txn.count := s.txn.count + 2, status := .ok } := by
  simp only [exec, execCmdByte, hf, hn, ne_eq, not_true_eq_false, if_false, Bool.true_eq_false]
  exact (sends_commandByte s.cfg.addr c).complete rfl (by simp [hf]) h

theorem exec_endCmd_of_acked {s : State} (hf : s.frame = .cmd) (hn : s.txn.count ≠ 0) (h : acked 1 s) :
    exec .endCmd s = .next { sent [.endEv] s with frame := .idle, txn.count := 0, status := .ok } := by
  simp only [exec, execEndCmd, hf, hn, ne_eq, not_true_eq_false, if_false]
  exact ((sends_event s.cfg.addr .endEv).map closeFrame).complete rfl (by simp [hf]) h

theorem exec_sendCommand_of_acked {c : Byte} {s : State} (hc : s.cfg.configured = true) (hf : s.frame = .idle)
    (h : acked 4 s) :
    exec (.sendCommand c) s = .next { sent (groupEvents (addrByte s.cfg.addr) [c]) s with
      cur.valid := false, frame := .idle, txn.count := 0, status := .ok } := by
  simp only [exec, execSendCommand, hc, hf, ne_eq, not_true_eq_false, if_false, Bool.true_eq_false]
  exact ((sends_group s.cfg.addr [c]).after quiet_clearCursor).complete rfl (by simp [hf]) h

end Sys2Proof.Machine
end

section
/-! PROOFS. The statements about sequences of operations and the reading of a log (30_encoding.md section 6). -/

open Sys2Proof Sys2Proof.Machine

/-- Settles O52: BEGIN_CMD, CMD_BYTE c and END_CMD together send the events of SEND_COMMAND c, and END_CMD leaves the
registers as SEND_COMMAND does. -/
theorem cmdsOfOneByteEqualsSendCommand : Obligations.CmdsOfOneByteEqualsSendCommand := by
  intro c s hw hc hf hk
  have hbegin : acked 1 s := acked_mono hk (by decide)
  have hbyte : acked 2 (sent [.beginEv (addrByte s.cfg.addr)] s) := acked_sent (acked_mono hk (Nat.le_succ 3))
  have hend : acked 1 (sent [.beginEv (addrByte s.cfg.addr), .byteEv 0x00, .byteEv c] s) := acked_sent hk
  refine ⟨_, _, _, exec_beginCmd_of_acked hc hf hbegin, exec_cmdByte_of_acked rfl ?_ hbyte,
    exec_endCmd_of_acked rfl (Nat.succ_ne_zero 1) ?_, ?_, rfl⟩
  · exact admits_of_wf hw (Nat.le_add_left 2 2)
  · exact acked_of_eq (fun _ => rfl) rfl hend
  · rw [exec_sendCommand_of_acked hc hf hk]
    simp [sent, groupEvents, Nat.add_assoc]

/-- Settles O53: a transaction's events split off one transaction at a time, and each payload's form is read byte by byte. -/
theorem logIsReadBackIntoFrames : Obligations.LogIsReadBackIntoFrames :=
  ⟨splitLog_flatMap_events, fun _ h => frameOf_commandPayload h, frameOf_dataPayload, frameOf_commandPayload_cut⟩
end

section
/-! SUPPORT. What the framer's operations answer, case by case (R113 to R119): where a check fails, where every event is
acknowledged, and where one is not. In a data frame a transport error also forgets cells, which `Sends` leaves out. -/

namespace Sys2Proof.Machine

/-! ### The checks in front of an operation (R201, R202) -/

section checks
variable {e : ErrorCode} {s : State} {o : Host.Outcome State Fault Refusal}

theorem check_fails {p : Prop} [Decidable p] (h : p) : (if p then reject e s else o) = .next (rejected e s) := if_pos h

theorem check_passes_of_true {b : Bool} (h : b = true) : (if b = false then reject e s else o) = o :=
  if_neg (ne_false_of_eq_true h)

theorem check_passes_of_frame {f : FrameState} (h : s.frame = f) : (if s.frame ≠ f then reject e s else o) = o :=
  if_neg (not_not_intro h)

end checks

/-! ### Transport errors (R112) -/

/-- A part that sends its events outside a data frame ends the operation at the first one that fails. -/
theorem Sends.complete_of_fails {a : Addr7} {k : State → Attempt} {es : List BusEvent} {p : State → State}
    (h : Sends a k es p) {s : State} {n : Nat} {st : Status} (ha : s.cfg.addr = a) (hf : s.frame ≠ .data)
    (hn : n < es.length) (hk : failsAt n s) : (k s).complete st = .next (cutShort es n s) := by
  rw [h.fails s n ha hf hn hk, Attempt.complete]

theorem abortedEvents_singleton (e : BusEvent) : abortedEvents [e] 0 = [e] ++ releasing e := by
  cases e <;> simp [abortedEvents, releasing]

/-- A failed event in a data frame forgets the cells of the transaction (R112). -/
theorem tryEvent_of_fails_in_data {e : BusEvent} {s : State} (hf : s.frame = .data) (h : failsAt 0 s) :
    tryEvent e s = .ended { cutShort [e] 0 s with
      disp := s.disp.forgetFrom (cellAddr s.cur.page s.txn.col0) (s.cur.col.toNat - s.txn.col0.toNat) } := by
  obtain ⟨-, herr⟩ := h
  rw [tryEvent_err e s herr, transportFail_data e (sent [e] s) hf, endedWith_sent, cutShort, abortedEvents_singleton]
  rfl

/-- A failed event at the column the data frame began at forgets no cell (R116). -/
theorem tryEvent_of_fails_at_col0 {e : BusEvent} {s : State} (hf : s.frame = .data) (hcol : s.txn.col0 = s.cur.col)
    (h : failsAt 0 s) : tryEvent e s = .ended (cutShort [e] 0 s) := by
  rw [tryEvent_of_fails_in_data hf h, hcol, Nat.sub_self]
  rfl

/-! ### The command frame (R113 to R115, R119) -/

theorem exec_beginCmd_of_fails {s : State} (hc : s.cfg.configured = true) (hf : s.frame = .idle) (h : failsAt 0 s) :
    exec .beginCmd s = .next (cutShort [.beginEv (addrByte s.cfg.addr)] 0 s) := by
  have hsends := (sends_begin s.cfg.addr).after ((quiet_openCmd 0).comp quiet_clearCursor)
  refine (check_passes_of_true hc).trans ((check_passes_of_frame hf).trans ?_)
  exact hsends.complete_of_fails rfl (by simp [hf]) Nat.one_pos h

theorem exec_cmdByte_of_fails {c : Byte} {s : State} {n : Nat} (hf : s.frame = .cmd)
    (hcap : s.config.txnCap.admits (s.txn.count + 2) = true) (hn : n < 2) (h : failsAt n s) :
    exec (.cmdByte c) s = .next (cutShort [.byteEv 0x00, .byteEv c] n s) := by
  refine (check_passes_of_frame hf).trans ((check_passes_of_true hcap).trans ?_)
  exact (sends_commandByte s.cfg.addr c).complete_of_fails rfl (by simp [hf]) hn h

theorem exec_endCmd_of_fails {s : State} (hf : s.frame = .cmd) (hn : s.txn.count ≠ 0) (h : failsAt 0 s) :
    exec .endCmd s = .next (cutShort [.endEv] 0 s) := by
  refine (check_passes_of_frame hf).trans ((if_neg hn).trans ?_)
  exact ((sends_event s.cfg.addr .endEv).map closeFrame).complete_of_fails rfl (by simp [hf]) Nat.one_pos h

theorem exec_sendCommand_of_fails {c : Byte} {s : State} {n : Nat} (hc : s.cfg.configured = true) (hf : s.frame = .idle)
    (hn : n < 4) (h : failsAt n s) :
    exec (.sendCommand c) s = .next (cutShort (groupEvents (addrByte s.cfg.addr) [c]) n s) := by
  refine (check_passes_of_true hc).trans ((check_passes_of_frame hf).trans ?_)
  exact ((sends_group s.cfg.addr [c]).after quiet_clearCursor).complete_of_fails rfl (by simp [hf]) hn h

/-! ### The data frame (R116 to R118) -/

section beginData
variable {s : State} (hc : s.cfg.configured = true) (hi : s.initDone = true) (hf : s.frame = .idle)
  (hv : s.cur.valid = true)
include hc hi hf hv

theorem exec_beginData_past_checks : exec .beginData s =
    ((tryBegin (markColumn (openFrame .data 1 s))).bind (tryByte ctrlData)).complete .ok :=
  (check_passes_of_true hc).trans <| (check_passes_of_true hi).trans <|
    (check_passes_of_frame hf).trans <| check_passes_of_true hv

theorem exec_beginData_of_acked (h : acked 2 s) :
    exec .beginData s = .next { sent [.beginEv (addrByte s.cfg.addr), .byteEv 0x40] s with
      frame := .data, txn := { count := 1, col0 := s.cur.col }, status := .ok } := by
  have hbegin : tryBegin (markColumn (openFrame .data 1 s)) =
      .going (sent [.beginEv (addrByte s.cfg.addr)] (markColumn (openFrame .data 1 s))) :=
    tryEvent_ok _ _ (h 0 Nat.two_pos)
  rw [exec_beginData_past_checks hc hi hf hv, hbegin, Attempt.bind, tryByte, tryEvent_ok _ _ (h 1 Nat.one_lt_two),
    sent_sent]
  rfl

theorem exec_beginData_of_begin_fails (h : failsAt 0 s) :
    exec .beginData s = .next { cutShort [.beginEv (addrByte s.cfg.addr), .byteEv 0x40] 0 s with
      txn.col0 := s.cur.col } := by
  have hbegin : tryBegin (markColumn (openFrame .data 1 s)) =
      .ended (cutShort [.beginEv (addrByte s.cfg.addr)] 0 (markColumn (openFrame .data 1 s))) :=
    tryEvent_of_fails_at_col0 rfl rfl (failsAt_of_eq (fun _ => rfl) rfl h)
  rw [exec_beginData_past_checks hc hi hf hv, hbegin]
  rfl

theorem exec_beginData_of_control_fails (h : failsAt 1 s) :
    exec .beginData s = .next { cutShort [.beginEv (addrByte s.cfg.addr), .byteEv 0x40] 1 s with
      txn.col0 := s.cur.col } := by
  have hbegin : tryBegin (markColumn (openFrame .data 1 s)) =
      .going (sent [.beginEv (addrByte s.cfg.addr)] (markColumn (openFrame .data 1 s))) :=
    tryEvent_ok _ _ (h.1 0 Nat.one_pos)
  have hcontrol := tryEvent_of_fails_at_col0 (e := .byteEv ctrlData)
    (s := sent [.beginEv (addrByte s.cfg.addr)] (markColumn (openFrame .data 1 s))) rfl rfl
    (failsAt_sent (es := [_]) (failsAt_of_eq (fun _ => rfl) rfl h))
  rw [exec_beginData_past_checks hc hi hf hv, hbegin, Attempt.bind, tryByte, hcontrol, cutShort, endedWith_sent]
  rfl

end beginData

section dataByte
variable {v : Byte} {s : State} (hf : s.frame = .data) (hcol : s.cur.col.toNat ≠ 128)
  (hcap : s.config.txnCap.admits (s.txn.count + 1) = true)
include hf hcol hcap

theorem exec_dataByte_of_acked (hcell : cellAddr s.cur.page s.cur.col < nCells) (h : acked 1 s) :
    exec (.dataByte v) s = .next { sent [.byteEv v] s with
      cur.col := s.cur.col + 1, txn.count := s.txn.count + 1, status := .ok,
      disp := s.disp.write (cellAddr s.cur.page s.cur.col) v } := by
  have hbyte : tryByte v (advanceCursor s) = .going (sent [.byteEv v] (advanceCursor s)) :=
    tryEvent_ok _ _ (h 0 Nat.one_pos)
  refine (check_passes_of_frame hf).trans <| (if_neg hcol).trans <|
    (check_passes_of_true hcap).trans ?_
  simp only [hbyte, memWrite_of_lt hcell]
  rfl

theorem exec_dataByte_of_fails (h : failsAt 0 s) :
    exec (.dataByte v) s = .next { cutShort [.byteEv v] 0 s with
      cur.col := s.cur.col + 1,
      disp := s.disp.forgetFrom (cellAddr s.cur.page s.txn.col0) ((s.cur.col + 1).toNat - s.txn.col0.toNat) } := by
  have hbyte := tryEvent_of_fails_in_data (e := .byteEv v) (s := advanceCursor s) hf
    (failsAt_of_eq (fun _ => rfl) rfl h)
  refine (check_passes_of_frame hf).trans <| (if_neg hcol).trans <|
    (check_passes_of_true hcap).trans ?_
  simp only [tryByte, hbyte]
  rfl

end dataByte

theorem exec_endData_of_acked {s : State} (hf : s.frame = .data) (h : acked 1 s) :
    exec .endData s = .next { sent [.endEv] s with
      cur.valid := false, frame := .idle, txn.count := 0, status := .ok } := by
  have hend : tryEnd (clearCursor s) = .going (sent [.endEv] (clearCursor s)) := tryEvent_ok _ _ (h 0 Nat.one_pos)
  refine (check_passes_of_frame hf).trans ?_
  rw [hend]
  rfl

theorem exec_endData_of_fails {s : State} (hf : s.frame = .data) (h : failsAt 0 s) :
    exec .endData s = .next { cutShort [.endEv] 0 s with
      disp := s.disp.forgetFrom (cellAddr s.cur.page s.txn.col0) (s.cur.col.toNat - s.txn.col0.toNat) } := by
  have hend := tryEvent_of_fails_in_data (e := .endEv) (s := clearCursor s) hf (failsAt_of_eq (fun _ => rfl) rfl h)
  refine (check_passes_of_frame hf).trans ?_
  rw [tryEnd, hend]
  rfl

/-- The cells that R112 forgets, from `TXN.col0` on and before column `k` of the page. -/
theorem read_forgetFrom_columns (m : Memory) (p : BitVec 3) (c0 : BitVec 8) (k a : Nat) :
    (m.forgetFrom (cellAddr p c0) (k - c0.toNat)).read a =
      if cellAddr p c0 ≤ a ∧ a < p.toNat * nCols + k then none else m.read a := by
  have hrange : (cellAddr p c0 ≤ a ∧ a < cellAddr p c0 + (k - c0.toNat)) ↔
      (cellAddr p c0 ≤ a ∧ a < p.toNat * nCols + k) := by
    rw [cellAddr]
    omega
  rw [Memory.read_forgetFrom]
  exact if_congr hrange rfl rfl

end Sys2Proof.Machine
end

section
/-! PROOFS. The operations of the protocol framer, whole (40_framer.md R113 to R119). -/

open Sys2Proof Sys2Proof.Machine

/-- Settles O19: the checks of R113 in order, and then one Begin. -/
theorem beginCmdOpensACommandFrame : Obligations.BeginCmdOpensACommandFrame := by
  intro s
  refine ⟨by decide, check_fails, fun hc hf => ?_, fun hc hf =>
    ⟨exec_beginCmd_of_acked hc hf, exec_beginCmd_of_fails hc hf⟩⟩
  exact (check_passes_of_true hc).trans (check_fails hf)

/-- Settles O20: the checks of R114 in order, and then two bytes. -/
theorem cmdByteSendsControlByteAndCommand : Obligations.CmdByteSendsControlByteAndCommand := by
  intro c s
  refine ⟨encodeB_eq_or 4 c, check_fails, fun hf hcap => ?_, fun hf hcap => ⟨exec_cmdByte_of_acked hf hcap, fun n hn =>
    exec_cmdByte_of_fails hf hcap hn⟩⟩
  exact (check_passes_of_frame hf).trans (check_fails hcap)

/-- Settles O21: ERR_FRAME for another frame and for an empty one, and otherwise one End (R115). -/
theorem endCmdClosesANonemptyCommandFrame : Obligations.EndCmdClosesANonemptyCommandFrame := by
  intro s
  refine ⟨by decide, fun h => ?_, fun hf hn => ⟨exec_endCmd_of_acked hf hn, exec_endCmd_of_fails hf hn⟩⟩
  by_cases hf : s.frame = .cmd
  · have hn : s.txn.count = 0 := h.resolve_left (not_not_intro hf)
    exact (check_passes_of_frame hf).trans (check_fails hn)
  · exact check_fails hf

/-- Settles O22: the checks of R116 in order, and then Begin and the control byte; no cell is behind the cursor yet. -/
theorem beginDataOpensADataFrameAtTheCursor : Obligations.BeginDataOpensADataFrameAtTheCursor := by
  intro s
  refine ⟨by decide, check_fails, fun hc hi => ?_, fun hc hi hf => ?_, fun hc hi hf hv => ?_, fun hc hi hf hv =>
    ⟨exec_beginData_of_acked hc hi hf hv, fun n hn h => ?_⟩⟩
  · exact (check_passes_of_true hc).trans (check_fails hi)
  · exact (check_passes_of_true hc).trans <| (check_passes_of_true hi).trans (check_fails hf)
  · exact (check_passes_of_true hc).trans <| (check_passes_of_true hi).trans <|
      (check_passes_of_frame hf).trans (check_fails hv)
  · match n, hn with
    | 0, _ => exact exec_beginData_of_begin_fails hc hi hf hv h
    | 1, _ => exact exec_beginData_of_control_fails hc hi hf hv h

/-- Settles O23: the checks of R117 in order, and then one byte: its cell reads as written, or the cells up to the cursor
are forgotten. -/
theorem dataByteWritesTheCellAtTheCursor : Obligations.DataByteWritesTheCellAtTheCursor := by
  intro v s hedge
  refine ⟨encodeB_eq_or 7 v, check_fails, fun hf hcol => ?_, fun hf hcol hcap => ?_, fun hf hcol hcap =>
    ⟨fun h => ?_, fun h => ?_⟩⟩
  · exact (check_passes_of_frame hf).trans (if_pos hcol)
  · exact (check_passes_of_frame hf).trans <| (if_neg hcol).trans (check_fails hcap)
  · have hcell : cellAddr s.cur.page s.cur.col < nCells := cellAddr_lt _ _ (Nat.lt_of_le_of_ne hedge hcol)
    exact ⟨_, exec_dataByte_of_acked hf hcol hcap hcell h, fun a => Memory.read_write _ _ a v, rfl⟩
  · refine ⟨_, exec_dataByte_of_fails hf hcol hcap h, fun a => ?_, rfl⟩
    refine (read_forgetFrom_columns _ _ _ _ a).trans (if_congr ?_ rfl rfl)
    rw [col_succ_toNat hedge, ← Nat.add_assoc, Nat.lt_succ_iff]
    rfl

/-- Settles O24: the check of R118, and then one End; if it fails the cells before the cursor are forgotten. -/
theorem endDataClosesTheDataFrame : Obligations.EndDataClosesTheDataFrame := by
  intro s
  refine ⟨by decide, check_fails, fun hf => ⟨exec_endData_of_acked hf, fun h => ?_⟩⟩
  exact ⟨_, exec_endData_of_fails hf h, read_forgetFrom_columns _ _ _ _, rfl⟩

/-- Settles O25: the checks of R119 in order, and then one command frame of one byte. -/
theorem sendCommandSendsOneCommandFrame : Obligations.SendCommandSendsOneCommandFrame := by
  intro c s es
  refine ⟨encodeB_eq_or 9 c, check_fails, fun hc hf => ?_, fun hc hf => ⟨fun h => ?_, fun n hn h => ?_⟩⟩
  · exact (check_passes_of_true hc).trans (check_fails hf)
  · rw [exec_sendCommand_of_acked hc hf h, ← hf]
    rfl
  · exact exec_sendCommand_of_fails hc hf hn h
end

section
/-! SUPPORT. What a word leaves of the address, the cursor's place, the frame and the bus log, by cases on what the operation
did (R51, R110 to R112, R120). -/

namespace Sys2Proof.Machine

/-! ### Registers that one operation alone writes -/

section registers
variable {s t : State} {i : Instr}

theorem Did.cfg_of_ne_config (h : Did s i t) (hi : ∀ a, i ≠ .config a) : t.cfg = s.cfg := by
  cases h with
  | configured a => exact absurd rfl (hi a)
  | _ => rfl

theorem curAfter_place (hi : ∀ r c, i ≠ .setPosition r c) :
    (curAfter i s).page = s.cur.page ∧ (curAfter i s).col = s.cur.col := by
  cases i with
  | setPosition r c => exact absurd rfl (hi r c)
  | _ => exact ⟨rfl, rfl⟩

/-- SET_POSITION alone moves the cursor to another page (R27, R150). -/
theorem Did.page_of_ne_setPosition (h : Did s i t) (hi : ∀ r c, i ≠ .setPosition r c) : t.cur.page = s.cur.page := by
  cases h with
  | composed => exact (curAfter_place hi).1
  | _ => rfl

/-- SET_POSITION and DATA_BYTE alone move the cursor to another column (R27, R117, R150). -/
theorem Did.col_of_ne (h : Did s i t) (hi : ∀ r c, i ≠ .setPosition r c) (hd : ∀ v, i ≠ .dataByte v) :
    t.cur.col = s.cur.col := by
  cases h with
  | composed => exact (curAfter_place hi).2
  | sentDataByte v | dataByteFailed v => exact absurd rfl (hd v)
  | _ => rfl

/-- BEGIN_DATA alone writes `TXN.col0` (R26, R116). -/
theorem Did.col0_of_ne_beginData (h : Did s i t) (hi : i ≠ .beginData) : t.txn.col0 = s.txn.col0 := by
  cases h with
  | beganData | beginDataFailed => exact absurd rfl hi
  | _ => rfl

end registers

/-! ### The display cells that an operation changes -/

theorem Did.sameDisplay {s t : State} {i : Instr} (h : Did s i t) (hi : touchesDisplay i = false) : SameDisplay s t :=
  fun a => congrArg (Memory.read · a) (h.disp_of_not_touchesDisplay hi)

/-- DATA_BYTE changes the cell at the cursor if it ends OK, cells of its transaction if it ends ERR_TRANSPORT, and only
STATUS and ERRLOG otherwise (R117, R112, R201). -/
theorem Did.display_of_dataByte {v : Byte} {s t : State} (h : Did s (.dataByte v) t) :
    (t.status = .ok → ∀ a, a ≠ cellAddr s.cur.page s.cur.col → t.disp.read a = s.disp.read a) ∧
    (t.status = .error .transport → ∀ a, a < cellAddr s.cur.page s.txn.col0 ∨ cellAddr s.cur.page s.cur.col < a →
      t.disp.read a = s.disp.read a) ∧
    (t.status ≠ .ok → t.status ≠ .error .transport →
      t = { s with status := t.status, errlog := t.errlog } ∧ SameDisplay s t) := by
  cases h with
  | rejected | clipped => exact ⟨fun _ _ _ => rfl, fun _ _ _ => rfl, fun _ _ => ⟨rfl, fun _ => rfl⟩⟩
  | sentDataByte =>
    refine ⟨fun _ a ha => ?_, (nomatch ·), fun hok => absurd rfl hok⟩
    exact (Memory.read_write s.disp _ a v).trans (if_neg ha)
  | dataByteFailed =>
    refine ⟨(nomatch ·), fun _ a ha => (read_forgetFrom_columns _ _ _ _ a).trans (if_neg ?_), fun _ herr => absurd rfl herr⟩
    have hsucc : (s.cur.col + 1).toNat ≤ s.cur.col.toNat + 1 := Nat.mod_le _ _
    simp only [cellAddr] at ha ⊢
    omega
  | composed _ _ hg | composedFailed _ _ _ hg => nomatch hg

/-- END_DATA changes cells of its transaction alone, and those only if its End fails (R118, R112). -/
theorem Did.display_of_endData {s t : State} (h : Did s .endData t) :
    (t.status ≠ .error .transport → SameDisplay s t) ∧
    ∀ a, a < cellAddr s.cur.page s.txn.col0 ∨ cellAddr s.cur.page s.cur.col ≤ a → t.disp.read a = s.disp.read a := by
  cases h with
  | rejected | endedData => exact ⟨fun _ _ => rfl, fun _ _ => rfl⟩
  | endDataFailed =>
    refine ⟨fun herr => absurd rfl herr, fun a ha => (read_forgetFrom_columns _ _ _ _ a).trans (if_neg ?_)⟩
    simp only [cellAddr] at ha ⊢
    omega
  | composed _ _ hg | composedFailed _ _ _ hg => nomatch hg

/-! ### After a transport error (R112) -/

/-- Whatever event failed, the last one sent is End. -/
theorem getLast?_abortedEvents (es : List BusEvent) (n : Nat) : (abortedEvents es n).getLast? = some .endEv := by
  by_cases h : es[n]? = some .endEv
  · simp [abortedEvents, h, List.take_add_one]
  · simp [abortedEvents, h]

theorem getLast?_append_abortedEvents (log es : List BusEvent) (n : Nat) :
    (log ++ abortedEvents es n).getLast? = some .endEv := by
  rw [List.getLast?_append, getLast?_abortedEvents, Option.some_or]

/-- ERR_TRANSPORT leaves the bus released, no frame open and the cursor unknown (R112, R235). -/
theorem Did.released {s t : State} {i : Instr} (h : Did s i t) (herr : t.status = .error .transport) :
    t.frame = .idle ∧ t.txn.count = 0 ∧ t.cur.valid = false ∧ t.log.getLast? = some .endEv := by
  cases h with
  | rejected i e he =>
    injection herr with herr
    exact absurd (herr ▸ he) not_causeApplies_transport
  | composedFailed | beginCmdFailed | cmdByteFailed | endCmdFailed | beginDataFailed | dataByteFailed | endDataFailed =>
    exact ⟨rfl, rfl, rfl, getLast?_append_abortedEvents s.log _ _⟩
  | _ => nomatch herr

/-! ### Composite operations (R120) -/

theorem Did.frame_of_composite {s t : State} {i : Instr} (h : Did s i t) (hi : isComposite i = true)
    (hf : s.frame = .idle) : t.frame = .idle := by
  cases h with
  | rejected | composed => exact hf
  | composedFailed => rfl
  | _ => nomatch hi

/-- In an open frame a check rejects every composite operation. -/
theorem Did.rejected_of_composite {s t : State} {i : Instr} (h : Did s i t) (hi : isComposite i = true)
    (hf : s.frame ≠ .idle) : ∃ e, t = Machine.rejected e s := by
  cases h with
  | rejected i e => exact ⟨e, rfl⟩
  | composed _ _ _ _ _ hidle | composedFailed _ _ _ _ _ hidle => exact absurd hidle hf
  | _ => nomatch hi

/-- Past the checks of CFG and INIT that check is the one of FRAME (R202). -/
theorem exec_composite_in_open_frame {s : State} {i : Instr} (hi : isComposite i = true)
    (hc : s.cfg.configured = true) (hinit : needsInit i = true → s.initDone = true) (hf : s.frame ≠ .idle) :
    exec i s = .next (rejected .frame s) := by
  cases i with
  | initialise | sendCommand => exact (check_passes_of_true hc).trans (check_fails hf)
  | setPosition | setContrast | invertScreen | sleep =>
    exact (check_passes_of_true hc).trans <| (check_passes_of_true (hinit rfl)).trans (check_fails hf)
  | _ => nomatch hi

/-! ### The events a word appends to LOG (R51, R110, R111) -/

/-- Every Begin among the events is sent by a configured block and carries its address and the write bit (R81, R111). -/
def BeginsAddressed (s : State) (es : List BusEvent) : Prop :=
  ∀ a, .beginEv a ∈ es → s.cfg.configured = true ∧ a.toNat = 2 * s.cfg.addr.toNat

section begins
variable {s : State}

theorem beginsAddressed_of_no_begin {es : List BusEvent} (h : ∀ a, .beginEv a ∉ es) : BeginsAddressed s es :=
  fun a ha => absurd ha (h a)

theorem beginsAddressed_of_addrByte {es : List BusEvent} (hc : s.cfg.configured = true)
    (h : ∀ a, .beginEv a ∈ es → a = addrByte s.cfg.addr) : BeginsAddressed s es :=
  fun a ha => ⟨hc, h a ha ▸ addrByte_toNat s.cfg.addr⟩

/-- The one Begin of a command frame carries its address byte (R121). -/
theorem eq_of_beginEv_mem_groupsEvents {a8 a : Byte} {gs : List (List Byte)} (h : .beginEv a ∈ groupsEvents a8 gs) :
    a = a8 := by
  obtain ⟨g, -, hg⟩ := List.mem_flatMap.1 h
  simpa [groupEvents] using hg

/-- A transport error adds no Begin (R112). -/
theorem BeginsAddressed.aborted {es : List BusEvent} (h : BeginsAddressed s es) (n : Nat) :
    BeginsAddressed s (abortedEvents es n) := by
  intro a ha
  rcases List.mem_append.1 ha with ha | ha
  · exact h a (List.mem_of_mem_take ha)
  · split at ha <;> simp at ha

end begins

/-- From `s` to `t` events have been appended to LOG, each with its draw, and their Begins are addressed. -/
def LogGrows (s t : State) : Prop :=
  ∃ es, t.log = s.log ++ es ∧ t.draws = s.draws + es.length ∧ BeginsAddressed s es

theorem logGrows_of_eq {s t : State} (hlog : t.log = s.log) (hdraws : t.draws = s.draws) : LogGrows s t :=
  ⟨[], hlog.trans (List.append_nil s.log).symm, hdraws, fun _ h => nomatch h⟩

theorem Did.logGrows {s t : State} {i : Instr} (h : Did s i t) : LogGrows s t := by
  have hbegin (hc : s.cfg.configured = true) : BeginsAddressed s [.beginEv (addrByte s.cfg.addr)] :=
    beginsAddressed_of_addrByte hc (by simp)
  have hdata (hc : s.cfg.configured = true) : BeginsAddressed s [.beginEv (addrByte s.cfg.addr), .byteEv 0x40] :=
    beginsAddressed_of_addrByte hc (by simp)
  have hgroups (hc : s.cfg.configured = true) (gs : List (List Byte)) :
      BeginsAddressed s (groupsEvents (addrByte s.cfg.addr) gs) :=
    beginsAddressed_of_addrByte hc fun _ => eq_of_beginEv_mem_groupsEvents
  have hcmdByte (c : Byte) : BeginsAddressed s [.byteEv 0x00, .byteEv c] := beginsAddressed_of_no_begin (by simp)
  have hbyte (v : Byte) : BeginsAddressed s [.byteEv v] := beginsAddressed_of_no_begin (by simp)
  have hend : BeginsAddressed s [.endEv] := beginsAddressed_of_no_begin (by simp)
  cases h with
  | rejected | clipped | configured => exact logGrows_of_eq rfl rfl
  | beganCmd hc => exact ⟨_, rfl, rfl, hbegin hc⟩
  | sentCmdByte c => exact ⟨_, rfl, rfl, hcmdByte c⟩
  | endedCmd | endedData => exact ⟨_, rfl, rfl, hend⟩
  | beganData hc => exact ⟨_, rfl, rfl, hdata hc⟩
  | sentDataByte v => exact ⟨_, rfl, rfl, hbyte v⟩
  | composed i gs hg hc => exact ⟨_, rfl, rfl, hgroups hc gs⟩
  | composedFailed i gs n hg hc => exact ⟨_, rfl, rfl, (hgroups hc gs).aborted n⟩
  | beginCmdFailed hc => exact ⟨_, rfl, rfl, (hbegin hc).aborted 0⟩
  | cmdByteFailed c n => exact ⟨_, rfl, rfl, (hcmdByte c).aborted n⟩
  | endCmdFailed | endDataFailed => exact ⟨_, rfl, rfl, hend.aborted 0⟩
  | beginDataFailed n hn hc => exact ⟨_, rfl, rfl, (hdata hc).aborted n⟩
  | dataByteFailed v => exact ⟨_, rfl, rfl, (hbyte v).aborted 0⟩

theorem WordDid.logGrows {s t : State} (h : WordDid s t) : LogGrows s t := by
  cases h with
  | illegal => exact logGrows_of_eq rfl rfl
  | ran i t h => exact h.logGrows

end Sys2Proof.Machine
end

section
/-! PROOFS. What the framer's operations leave unchanged, and the rules of the bus (40_framer.md R110 to R120). -/

open Sys2Proof Sys2Proof.Machine

/-- Settles O34: every way an operation ends with ERR_TRANSPORT is a `cutShort`. -/
theorem transportErrorReleasesTheBus : Obligations.TransportErrorReleasesTheBus :=
  fun i s t h => (exec_did i s t h).released

/-- Settles O37: each register is written by other operations alone, and no command frame touches the display. -/
theorem commandFramePrimitivesChangeNothingElse : Obligations.CommandFramePrimitivesChangeNothingElse := by
  intro i s t hi h
  have hd : Did s i t := exec_did i s t h
  rcases hi with rfl | ⟨c, rfl⟩ | rfl <;>
    exact ⟨hd.cfg_of_ne_config (by simp), hd.initDone_of_ne (by simp), hd.col0_of_ne_beginData (by simp),
      hd.page_of_ne_setPosition (by simp), hd.col_of_ne (by simp) (by simp), hd.sameDisplay rfl, hd.sameHost⟩

/-- Settles O40: each register is written by other operations alone, and the display as `Did.display_of_dataByte` says. -/
theorem dataByteChangesNothingElse : Obligations.DataByteChangesNothingElse := by
  intro v s t h
  have hd : Did s (.dataByte v) t := exec_did _ s t h
  exact ⟨hd.cfg_of_ne_config (by simp), hd.initDone_of_ne (by simp), hd.page_of_ne_setPosition (by simp),
    hd.col0_of_ne_beginData (by simp), hd.sameHost, hd.display_of_dataByte⟩

/-- Settles O41: each register is written by other operations alone, and the display as `Did.display_of_endData` says. -/
theorem dataFrameBracketsChangeNothingElse : Obligations.DataFrameBracketsChangeNothingElse := by
  refine ⟨fun s t h => ?_, fun s t h => ?_⟩
  · have hd : Did s .beginData t := exec_did _ s t h
    exact ⟨hd.cfg_of_ne_config (by simp), hd.initDone_of_ne (by simp), hd.page_of_ne_setPosition (by simp),
      hd.col_of_ne (by simp) (by simp), hd.sameDisplay rfl, hd.sameHost⟩
  · have hd : Did s .endData t := exec_did _ s t h
    exact ⟨hd.cfg_of_ne_config (by simp), hd.initDone_of_ne (by simp), hd.page_of_ne_setPosition (by simp),
      hd.col_of_ne (by simp) (by simp), hd.col0_of_ne_beginData (by simp), hd.sameHost, hd.display_of_endData⟩

/-- Settles O46: a composite operation sends whole command frames or is rejected, and in an open frame it is rejected. -/
theorem compositeOperationsLeaveNoFrameOpen : Obligations.CompositeOperationsLeaveNoFrameOpen := by
  intro i s t hi h
  have hd : Did s i t := exec_did i s t h
  refine ⟨hd.frame_of_composite hi, fun hf => ⟨?_, fun hc hinit => ?_⟩⟩
  · obtain ⟨e, rfl⟩ := hd.rejected_of_composite hi hf
    rfl
  · rw [exec_composite_in_open_frame hi hc hinit hf] at h
    injection h with h
    exact h ▸ rfl

/-- Settles O47: every way a word can end appends its events to LOG, or those up to the failed one and End. -/
theorem logOnlyGrowsAndBeginsCarryTheAddress : Obligations.LogOnlyGrowsAndBeginsCarryTheAddress := by
  intro s t h0 h
  obtain ⟨u, hu, rfl⟩ := step_did h0 h
  exact hu.logGrows
end

section
/-! SUPPORT. What SET_POSITION answers past its checks (41_addressing.md R150), and what the composite operations leave of
FRAME, TXN and the cursor's place (R120). -/

namespace Sys2Proof.Machine

/-! ### SET_POSITION past its checks (R150) -/

/-- The twelve events of SET_POSITION, its operands split as numbers (R95, R96, R150). -/
theorem groupsEvents_positionGroups (a8 : Byte) (enc : CmdEnc) (r : BitVec 4) (c : BitVec 8) :
    groupsEvents a8 (positionGroups enc r c) =
      [.beginEv a8, .byteEv 0x00, .byteEv (enc.setPage ||| BitVec.ofNat 8 r.toNat), .endEv,
       .beginEv a8, .byteEv 0x00, .byteEv (enc.setColLo ||| BitVec.ofNat 8 (c.toNat % 16)), .endEv,
       .beginEv a8, .byteEv 0x00, .byteEv (enc.setColHi ||| BitVec.ofNat 8 (c.toNat / 16)), .endEv] := by
  rw [positionGroups, colLo_eq, colHi_eq, ← BitVec.ofNat_toNat]
  rfl

/-- SET_POSITION behind its checks sends its command frames and then sets the cursor. -/
theorem sends_setPosition (a : Addr7) (enc : CmdEnc) (r : BitVec 4) (c : BitVec 8) :
    Sends a (fun s => (sendGroups (positionGroups enc r c) (clearCursor s)).map (setCursor (rowPage r) c))
      (groupsEvents (addrByte a) (positionGroups enc r c)) (setCursor (rowPage r) c ∘ closeFrame ∘ clearCursor) :=
  ((sends_groups a (positionGroups enc r c)).after quiet_clearCursor).map (setCursor (rowPage r) c)

section setPosition
variable {r : BitVec 4} {c : BitVec 8} {s : State} (hc : s.cfg.configured = true) (hi : s.initDone = true)
  (hf : s.frame = .idle) (hr : r.toNat ≤ 7) (hcol : c.toNat ≤ 127)
include hc hi hf hr hcol

theorem exec_setPosition_past_checks : exec (.setPosition r c) s =
    ((sendGroups (positionGroups s.config.cmdEnc r c) (clearCursor s)).map (setCursor (rowPage r) c)).complete .ok :=
  (check_passes_of_true hc).trans <| (check_passes_of_true hi).trans <|
    (check_passes_of_frame hf).trans <| check_passes_of_true ((inRange_iff r c).2 ⟨hr, hcol⟩)

theorem exec_setPosition_of_acked (h : acked 12 s) :
    exec (.setPosition r c) s =
      .next { sent (groupsEvents (addrByte s.cfg.addr) (positionGroups s.config.cmdEnc r c)) s with
        cur := { valid := true, page := rowPage r, col := c }, frame := .idle, txn.count := 0, status := .ok } := by
  rw [exec_setPosition_past_checks hc hi hf hr hcol]
  exact (sends_setPosition s.cfg.addr s.config.cmdEnc r c).complete rfl (by simp [hf]) h

theorem exec_setPosition_of_fails {n : Nat} (hn : n < 12) (h : failsAt n s) :
    exec (.setPosition r c) s =
      .next (cutShort (groupsEvents (addrByte s.cfg.addr) (positionGroups s.config.cmdEnc r c)) n s) := by
  rw [exec_setPosition_past_checks hc hi hf hr hcol]
  exact (sends_setPosition s.cfg.addr s.config.cmdEnc r c).complete_of_fails rfl (by simp [hf]) hn h

end setPosition

/-- The cell at a position on the grid (R52, R96, R153). -/
theorem cellAddr_rowPage {r : BitVec 4} (hr : r.toNat ≤ 7) (c : BitVec 8) :
    cellAddr (rowPage r) c = r.toNat * 128 + c.toNat := by
  rw [cellAddr, rowPage_toNat r hr, nCols]

/-! ### What a composite operation leaves of FRAME, TXN and the cursor's place (R112, R120, R121) -/

section composite
variable {s t : State} {i : Instr} (h : Did s i t) (hi : isComposite i = true)
include h hi

theorem Did.frame_eq_of_composite : t.frame = s.frame := by
  cases h with
  | rejected | composed => rfl
  | composedFailed _ _ _ _ _ hf => exact hf.symm
  | _ => nomatch hi

/-- Its own frames leave `TXN.count` at 0, as it was with no frame open (R32). -/
theorem Did.count_of_composite (hcount : s.frame = .idle → s.txn.count = 0) : t.txn.count = s.txn.count := by
  cases h with
  | rejected => rfl
  | composed _ gs _ _ _ hf =>
    show (if gs = [] then s.txn.count else 0) = s.txn.count
    rw [hcount hf, ite_self]
  | composedFailed _ _ _ _ _ hf => exact (hcount hf).symm
  | _ => nomatch hi

/-- Unless it ended OK, only `CUR.valid` may have changed of the cursor. -/
theorem Did.place_of_composite_not_ok (hok : t.status ≠ .ok) : t.cur.page = s.cur.page ∧ t.cur.col = s.cur.col := by
  cases h with
  | rejected | composedFailed => exact ⟨rfl, rfl⟩
  | composed => exact absurd rfl hok
  | _ => nomatch hi

end composite

end Sys2Proof.Machine
end

section
/-! PROOFS. The statements about addressing (41_addressing.md). -/

open Sys2Proof Sys2Proof.Machine

/-- Settles O26: the checks of R150 in order, and then three command frames of one byte each. -/
theorem setPositionProgramsTheCursor : Obligations.SetPositionProgramsTheCursor := by
  intro r c s b es
  have hes : groupsEvents (addrByte s.cfg.addr) (positionGroups s.config.cmdEnc r c) = es :=
    groupsEvents_positionGroups _ _ r c
  refine ⟨encodeP_eq_or 0xA r c, check_fails, fun hc hi => ?_, fun hc hi hf => ?_, fun hc hi hf hoff => ?_,
    fun hc hi hf hr hcol => ⟨fun h => ?_, fun n hn h => ?_⟩⟩
  · exact (check_passes_of_true hc).trans (check_fails hi)
  · exact (check_passes_of_true hc).trans <| (check_passes_of_true hi).trans (check_fails hf)
  · exact (check_passes_of_true hc).trans <| (check_passes_of_true hi).trans <|
      (check_passes_of_frame hf).trans (check_fails ((inRange_false_iff r c).2 hoff))
  · rw [exec_setPosition_of_acked hc hi hf hr hcol h, hes, rowPage_eq, ← hf]
    rfl
  · rw [exec_setPosition_of_fails hc hi hf hr hcol hn h, hes]

/-- Settles O38: other operations alone write CFG, INIT.done and `TXN.col0`, and a composite operation comes back to the
frame and count it began with. -/
theorem setPositionChangesNothingElse : Obligations.SetPositionChangesNothingElse := by
  intro r c s t h
  have hd : Did s (.setPosition r c) t := exec_did _ s t h
  exact ⟨hd.cfg_of_ne_config (by simp), hd.initDone_of_ne (by simp), hd.frame_eq_of_composite rfl,
    hd.col0_of_ne_beginData (by simp), hd.count_of_composite rfl, hd.place_of_composite_not_ok rfl, hd.sameDisplay rfl,
    hd.sameHost⟩

/-- Settles O51: SET_POSITION leaves the cursor at the position, BEGIN_DATA keeps it there, and DATA_BYTE writes the cell at
the cursor alone. -/
theorem positionedByteWritesExactlyOneCell : Obligations.PositionedByteWritesExactlyOneCell := by
  intro r c v s hr hcol hw hc hi hf hk
  have hposition : acked 12 s := acked_mono hk (by decide)
  have hbegin : acked 2 (sent (groupsEvents (addrByte s.cfg.addr) (positionGroups s.config.cmdEnc r c)) s) :=
    acked_sent (acked_mono hk (Nat.le_succ 14))
  have hbyte : acked 1 (sent (groupsEvents (addrByte s.cfg.addr) (positionGroups s.config.cmdEnc r c) ++
      [.beginEv (addrByte s.cfg.addr), .byteEv 0x40]) s) := acked_sent hk
  have hcell : cellAddr (rowPage r) c < nCells := cellAddr_lt _ _ (Nat.lt_succ_of_le hcol)
  refine ⟨_, _, _, exec_setPosition_of_acked hc hi hf hr hcol hposition, exec_beginData_of_acked hc hi rfl rfl ?_,
    exec_dataByte_of_acked rfl ?_ ?_ hcell ?_, rfl, fun a => ?_⟩
  · exact acked_of_eq (fun _ => rfl) rfl hbegin
  · exact Nat.ne_of_lt (Nat.lt_succ_of_le hcol)
  · exact admits_of_wf hw (Nat.le_add_left 2 2)
  · exact acked_of_eq (fun _ => rfl) rfl hbyte
  · rw [← cellAddr_rowPage hr c]
    exact Memory.read_write s.disp _ a v
end

section
/-! SUPPORT. The parameter check in terms of its numbers (00_scope.md section 4, R172): what each part of it asks of a bounded
`TXN_CAP`, and that a machine starts exactly if it passes. -/

namespace Sys2Proof

theorem TxnCap.wf_iff {cap : TxnCap} : cap.wf = true ↔ ∀ n, cap = .bounded n → 4 ≤ n := by
  cases cap with
  | unbounded => exact iff_of_true rfl fun _ h => nomatch h
  | bounded k => simp [TxnCap.wf]

theorem TxnCap.admits_iff {cap : TxnCap} {k : Nat} : cap.admits k = true ↔ ∀ n, cap = .bounded n → k ≤ n := by
  cases cap with
  | unbounded => exact iff_of_true rfl fun _ h => nomatch h
  | bounded m => simp [TxnCap.admits]

theorem TxnCap.groupOk_iff {cap : TxnCap} {g : List Byte} :
    cap.groupOk g = true ↔ g ≠ [] ∧ ∀ n, cap = .bounded n → 2 * g.length ≤ n := by
  rw [TxnCap.groupOk, Bool.and_eq_true_iff, decide_eq_true_iff, TxnCap.admits_iff, Nat.one_le_iff_ne_zero, ne_eq,
    List.length_eq_zero_iff]

theorem Config.wf_iff {c : Config} : c.wf = true ↔
    (∀ n, c.txnCap = .bounded n → 4 ≤ n) ∧
    ∀ g ∈ c.initSeq, g ≠ [] ∧ ∀ n, c.txnCap = .bounded n → 2 * g.length ≤ n := by
  simp only [Config.wf, Bool.and_eq_true_iff, TxnCap.wf_iff, List.all_eq_true, TxnCap.groupOk_iff]

theorem Machine.powerOn_of_wf {c : Config} (h : c.wf = true) : powerOn c = .next (State.initial c) := if_pos h

theorem Machine.powerOn_of_not_wf {c : Config} (h : ¬ c.wf = true) : powerOn c = .refused .malformedConfig := if_neg h

end Sys2Proof
end

section
/-! SUPPORT. What CONFIG, INITIALIZE and the passthroughs answer past their checks, and what they leave unchanged
(42_register_programming.md R170 to R176). -/

namespace Sys2Proof.Machine

/-! ### CONFIG (R170) -/

section config
variable {a : Addr7} {s : State}

theorem exec_config_of_configured (hc : s.cfg.configured = true) :
    exec (.config a) s = .next (rejected .config s) := if_pos hc

theorem exec_config_of_not_mem (hc : s.cfg.configured = false) (ha : a ∉ s.config.addrSet) :
    exec (.config a) s = .next (rejected .config s) := by
  have hcontains : s.config.addrSet.contains a = false := by simpa using ha
  exact (if_neg (ne_true_of_eq_false hc)).trans (check_fails hcontains)

theorem exec_config_of_mem (hc : s.cfg.configured = false) (ha : a ∈ s.config.addrSet) :
    exec (.config a) s = .next { s with cfg := { addr := a, configured := true }, status := .ok } :=
  (if_neg (ne_true_of_eq_false hc)).trans (check_passes_of_true (List.contains_iff_mem.2 ha))

/-- Whether it is accepted or not, CONFIG writes no other register. -/
theorem Did.eq_of_config {t : State} (h : Did s (.config a) t) :
    t = { s with cfg := t.cfg, status := t.status, errlog := t.errlog } := by
  cases h with
  | rejected | configured => rfl
  | composed _ _ hg | composedFailed _ _ _ hg => nomatch hg

end config

/-! ### INITIALIZE (R171) -/

/-- With no frame open, closing one writes `TXN.count` alone. -/
theorem closeFrame_of_idle {s : State} (hf : s.frame = .idle) : closeFrame s = { s with txn.count := 0 } := by
  rw [closeFrame, ← hf]

section initialise
variable {s : State} (hc : s.cfg.configured = true) (hf : s.frame = .idle)
include hc hf

theorem exec_initialise_past_checks : exec .initialise s =
    ((sendGroups s.config.initSeq (clearCursor (setInitDone false s))).map (setInitDone true)).complete .ok :=
  (check_passes_of_true hc).trans (check_passes_of_frame hf)

theorem exec_initialise_of_acked (h : acked (groupsEvents (addrByte s.cfg.addr) s.config.initSeq).length s) :
    exec .initialise s = .next { sent (groupsEvents (addrByte s.cfg.addr) s.config.initSeq) s with
      initDone := true, cur.valid := false, status := .ok,
      txn.count := if s.config.initSeq = [] then s.txn.count else 0 } := by
  have hsent := ((sends_groups s.cfg.addr s.config.initSeq).map (setInitDone true)).complete
    (s := clearCursor (setInitDone false s)) rfl (by simp [hf]) h
  rw [exec_initialise_past_checks hc hf, hsent]
  by_cases hgs : s.config.initSeq = []
  · simp only [if_pos hgs]
    rfl
  · simp only [if_neg hgs, Function.comp_apply, closeFrame_of_idle (s := sent _ (clearCursor (setInitDone false s))) hf]
    rfl

theorem exec_initialise_of_fails {n : Nat} (hn : n < (groupsEvents (addrByte s.cfg.addr) s.config.initSeq).length)
    (h : failsAt n s) : exec .initialise s =
      .next { cutShort (groupsEvents (addrByte s.cfg.addr) s.config.initSeq) n s with initDone := false } := by
  rw [exec_initialise_past_checks hc hf]
  exact ((sends_groups s.cfg.addr s.config.initSeq).map (setInitDone true)).complete_of_fails
    (s := clearCursor (setInitDone false s)) rfl (by simp [hf]) hn h

end initialise

/-! ### The passthroughs (R173 to R176) -/

section passthrough
variable {g : List Byte} {s : State} (hc : s.cfg.configured = true) (hi : s.initDone = true) (hf : s.frame = .idle)
include hc hi hf

theorem passthrough_past_checks : passthrough g s = (sendGroup g (clearCursor s)).complete .ok :=
  (check_passes_of_true hc).trans <| (check_passes_of_true hi).trans (check_passes_of_frame hf)

theorem passthrough_of_acked (h : acked (groupEvents (addrByte s.cfg.addr) g).length s) :
    passthrough g s = .next { sent (groupEvents (addrByte s.cfg.addr) g) s with
      cur.valid := false, txn.count := 0, status := .ok } := by
  rw [passthrough_past_checks hc hi hf,
    ((sends_group s.cfg.addr g).after quiet_clearCursor).complete rfl (by simp [hf]) h, Function.comp_apply,
    closeFrame_of_idle (s := clearCursor (sent _ s)) hf]
  rfl

theorem passthrough_of_fails {n : Nat} (hn : n < (groupEvents (addrByte s.cfg.addr) g).length) (h : failsAt n s) :
    passthrough g s = .next (cutShort (groupEvents (addrByte s.cfg.addr) g) n s) := by
  rw [passthrough_past_checks hc hi hf]
  exact ((sends_group s.cfg.addr g).after quiet_clearCursor).complete_of_fails rfl (by simp [hf]) hn h

end passthrough

/-- All that a passthrough of a command group `g` can answer: the checks in order, and then one command frame. -/
theorem passthrough_answers (g : List Byte) (s : State) :
    (s.cfg.configured = false → passthrough g s = .next (rejected .config s)) ∧
    (s.cfg.configured = true → s.initDone = false → passthrough g s = .next (rejected .notInit s)) ∧
    (s.cfg.configured = true → s.initDone = true → s.frame ≠ .idle → passthrough g s = .next (rejected .frame s)) ∧
    (s.cfg.configured = true → s.initDone = true → s.frame = .idle →
      (acked (groupEvents (addrByte s.cfg.addr) g).length s → passthrough g s =
        .next { sent (groupEvents (addrByte s.cfg.addr) g) s with cur.valid := false, txn.count := 0, status := .ok }) ∧
      ∀ n < (groupEvents (addrByte s.cfg.addr) g).length, failsAt n s →
        passthrough g s = .next (cutShort (groupEvents (addrByte s.cfg.addr) g) n s)) := by
  refine ⟨check_fails, fun hc hi => ?_, fun hc hi hf => ?_, fun hc hi hf =>
    ⟨passthrough_of_acked hc hi hf, fun _ => passthrough_of_fails hc hi hf⟩⟩
  · exact (check_passes_of_true hc).trans (check_fails hi)
  · exact (check_passes_of_true hc).trans <| (check_passes_of_true hi).trans (check_fails hf)

/-! ### What a composite operation other than SET_POSITION leaves unchanged (R57, R120, R176) -/

theorem touchesDisplay_of_composite {i : Instr} (hi : isComposite i = true) : touchesDisplay i = false := by
  cases i with
  | dataByte | endData => nomatch hi
  | _ => rfl

theorem Did.unchanged_of_composite {s t : State} {i : Instr} (h : Did s i t) (hi : isComposite i = true)
    (hp : ∀ r c, i ≠ .setPosition r c) :
    t.cfg = s.cfg ∧ t.frame = s.frame ∧ t.txn.col0 = s.txn.col0 ∧
    ((s.frame = .idle → s.txn.count = 0) → t.txn.count = s.txn.count) ∧
    t.cur.page = s.cur.page ∧ t.cur.col = s.cur.col ∧ SameDisplay s t ∧ SameHost s t := by
  have hconfig (a : Addr7) : i ≠ .config a := by rintro rfl; nomatch hi
  have hbegin : i ≠ .beginData := by rintro rfl; nomatch hi
  have hbyte (v : Byte) : i ≠ .dataByte v := by rintro rfl; nomatch hi
  exact ⟨h.cfg_of_ne_config hconfig, h.frame_eq_of_composite hi, h.col0_of_ne_beginData hbegin, h.count_of_composite hi,
    h.page_of_ne_setPosition hp, h.col_of_ne hp hbyte, h.sameDisplay (touchesDisplay_of_composite hi), h.sameHost⟩

end Sys2Proof.Machine
end

section
/-! PROOFS. The statements about the parameters, CONFIG, INITIALIZE and the passthroughs (42_register_programming.md). -/

open Sys2Proof Sys2Proof.Machine

/-- Settles O9: each clause is one side of the check, read as numbers; the state a machine starts in is that of reset. -/
theorem malformedParametersAreRefused : Obligations.MalformedParametersAreRefused := by
  refine fun c => ⟨fun hbad => powerOn_of_not_wf fun hw => ?_, fun hfit hne => ?_⟩
  · obtain ⟨hcap, hgroups⟩ := Config.wf_iff.1 hw
    rcases hbad with ⟨n, hn, hlt⟩ | ⟨g, hg, hempty | ⟨n, hn, hlt⟩⟩
    · exact absurd (hcap n hn) (Nat.not_le.2 hlt)
    · exact absurd hempty (hgroups g hg).1
    · exact absurd ((hgroups g hg).2 n hn) (Nat.not_le.2 hlt)
  · have hw : c.wf = true :=
      Config.wf_iff.2 ⟨fun n hn => (hfit n hn).1, fun g hg => ⟨hne g hg, fun n hn => (hfit n hn).2 g hg⟩⟩
    exact ⟨_, powerOn_of_wf hw, rfl, regInv_initial hw⟩

/-- Settles O18: the checks of R171 in order, and then one command frame for each group. -/
theorem initializeSendsInitSeq : Obligations.InitializeSendsInitSeq := by
  intro s
  refine ⟨by decide, check_fails, fun hc hf => ?_, fun hc hf =>
    ⟨exec_initialise_of_acked hc hf, fun _ => exec_initialise_of_fails hc hf⟩⟩
  exact (check_passes_of_true hc).trans (check_fails hf)

/-- Settles O27: SET_CONTRAST is the passthrough of a group of two bytes. -/
theorem setContrastSendsTheLevel : Obligations.SetContrastSendsTheLevel :=
  fun l s => ⟨encodeB_eq_or 0xB l, passthrough_answers (contrastGroup s.config.cmdEnc l) s⟩

/-- Settles O28: INVERT_SCREEN is the passthrough of a group of one byte. -/
theorem invertScreenSendsOneCommand : Obligations.InvertScreenSendsOneCommand :=
  fun f s => ⟨by cases f <;> decide, passthrough_answers (invertGroup s.config.cmdEnc f) s⟩

/-- Settles O29: SLEEP is the passthrough of a group of one byte. -/
theorem sleepSendsDisplayOffOrOn : Obligations.SleepSendsDisplayOffOrOn :=
  fun f s => ⟨by cases f <;> decide, passthrough_answers (sleepGroup s.config.cmdEnc f) s⟩

/-- Settles O36: the four are composite operations, and neither INITIALIZE nor SET_POSITION. -/
theorem passthroughsChangeNothingElse : Obligations.PassthroughsChangeNothingElse := by
  intro i s t hi h
  have hd : Did s i t := exec_did i s t h
  have hkind : isComposite i = true ∧ i ≠ .initialise ∧ ∀ r c, i ≠ .setPosition r c := by
    rcases hi with ⟨c, rfl⟩ | ⟨l, rfl⟩ | ⟨f, rfl⟩ | ⟨f, rfl⟩ <;> simp [isComposite]
  obtain ⟨hcomposite, hinit, hposition⟩ := hkind
  obtain ⟨hcfg, hrest⟩ := hd.unchanged_of_composite hcomposite hposition
  exact ⟨hcfg, hd.initDone_of_ne hinit, hrest⟩

/-- Settles O39: CONFIG by cases on whether it is rejected, and INITIALIZE as a composite operation. -/
theorem lifecycleOperationsChangeNothingElse : Obligations.LifecycleOperationsChangeNothingElse :=
  ⟨fun _ s t h => (exec_did _ s t h).eq_of_config,
    fun s t h => (exec_did _ s t h).unchanged_of_composite rfl (by simp)⟩

/-- Settles O17: the two checks of R170 in order, and then the write to CFG. -/
theorem configFixesTheAddressOnce : Obligations.ConfigFixesTheAddressOnce :=
  fun a _ => ⟨encodeA_eq_or 1 a, exec_config_of_configured, exec_config_of_not_mem, exec_config_of_mem⟩
end

section
/-! SUPPORT. The causes of R200 against the checks in front of an operation: when each cause applies, what an operation finds
where it does not, and that the checks stand in the order of R202. -/

namespace Sys2Proof.Machine

/-! ### When a cause applies (R200) -/

section causes
variable {i : Instr} {s : State}

theorem causeApplies_config_iff : causeApplies i s .config = true ↔
    (needsConfig i = true ∧ s.cfg.configured = false) ∨ refusesConfig i s = true := by
  simp [causeApplies]

theorem causeApplies_notInit_iff : causeApplies i s .notInit = true ↔ needsInit i = true ∧ s.initDone = false := by
  simp [causeApplies]

theorem causeApplies_frame_iff : causeApplies i s .frame = true ↔
    (∃ f, needsFrame i = some f ∧ s.frame ≠ f) ∨ (i = .endCmd ∧ s.txn.count = 0) := by
  cases hf : needsFrame i <;> simp [causeApplies, hf]

theorem causeApplies_range_iff : causeApplies i s .range = true ↔
    ∃ r c, i = .setPosition r c ∧ (r.toNat > 7 ∨ c.toNat > 127) := by
  cases i <;> simp [causeApplies, offGrid]

theorem causeApplies_cursor_iff : causeApplies i s .cursor = true ↔ i = .beginData ∧ s.cur.valid = false := by
  simp [causeApplies]

theorem causeApplies_full_iff : causeApplies i s .full = true ↔
    bytesNeeded i ≠ 0 ∧ s.config.txnCap.admits (s.txn.count + bytesNeeded i) = false := by
  simp [causeApplies]

theorem refusesConfig_iff : refusesConfig i s = true ↔
    ∃ a, i = .config a ∧ (s.cfg.configured = true ∨ a ∉ s.config.addrSet) := by
  cases i <;> simp [refusesConfig]

/-! ### What an operation finds where a cause does not apply -/

theorem configured_of_no_cause (h : causeApplies i s .config ≠ true) (hi : needsConfig i = true) :
    s.cfg.configured = true :=
  eq_true_of_ne_false fun hc => h (causeApplies_config_iff.2 (.inl ⟨hi, hc⟩))

theorem initDone_of_no_cause (h : causeApplies i s .notInit ≠ true) (hi : needsInit i = true) : s.initDone = true :=
  eq_true_of_ne_false fun hd => h (causeApplies_notInit_iff.2 ⟨hi, hd⟩)

theorem frame_of_no_cause {f : FrameState} (h : causeApplies i s .frame ≠ true) (hi : needsFrame i = some f) :
    s.frame = f :=
  by_contra fun hf => h (causeApplies_frame_iff.2 (.inl ⟨f, hi, hf⟩))

theorem admits_of_no_cause (h : causeApplies i s .full ≠ true) (hi : bytesNeeded i ≠ 0) :
    s.config.txnCap.admits (s.txn.count + bytesNeeded i) = true :=
  eq_true_of_ne_false fun hn => h (causeApplies_full_iff.2 ⟨hi, hn⟩)

/-- Only DATA_BYTE can clip. -/
theorem exists_dataByte_of_clips (h : clips i s) : ∃ v, i = .dataByte v := by
  obtain ⟨hi, -⟩ := h
  cases i with
  | dataByte v => exact ⟨v, rfl⟩
  | _ => nomatch hi

end causes

/-! ### The checks in order (R202) -/

/-- No cause of a lower code than that of `e` applies. -/
def NoEarlierCause (i : Instr) (s : State) (e : ErrorCode) : Prop :=
  ∀ e', (errorCode e').toNat < (errorCode e).toNat → causeApplies i s e' ≠ true

section checks
variable {i : Instr} {s : State}

theorem exec_of_config_cause (h : causeApplies i s .config = true) : exec i s = .next (rejected .config s) := by
  rcases causeApplies_config_iff.1 h with ⟨hi, hc⟩ | hrefuses
  · cases i with
    | config | cmdByte | endCmd | dataByte | endData => nomatch hi
    | _ => exact check_fails hc
  · obtain ⟨a, rfl, hr⟩ := refusesConfig_iff.1 hrefuses
    by_cases hc : s.cfg.configured = true
    · exact exec_config_of_configured hc
    · exact exec_config_of_not_mem (eq_false_of_ne_true hc) (hr.resolve_left hc)

theorem exec_of_notInit_cause (h : causeApplies i s .notInit = true) (hfirst : NoEarlierCause i s .notInit) :
    exec i s = .next (rejected .notInit s) := by
  have hc := configured_of_no_cause (hfirst .config (by decide))
  obtain ⟨hi, hd⟩ := causeApplies_notInit_iff.1 h
  cases i with
  | beginData | setPosition | setContrast | invertScreen | sleep =>
    exact (check_passes_of_true (hc rfl)).trans (check_fails hd)
  | _ => nomatch hi

theorem exec_of_frame_cause (h : causeApplies i s .frame = true) (hfirst : NoEarlierCause i s .frame) :
    exec i s = .next (rejected .frame s) := by
  have hc := configured_of_no_cause (hfirst .config (by decide))
  have hd := initDone_of_no_cause (hfirst .notInit (by decide))
  rcases causeApplies_frame_iff.1 h with ⟨f, hi, hf⟩ | ⟨rfl, hn⟩
  · have hframe {g : FrameState} (hg : needsFrame i = some g) : s.frame ≠ g := Option.some.inj (hi.symm.trans hg) ▸ hf
    cases i with
    | config => nomatch hi
    | cmdByte | endCmd | dataByte | endData => exact check_fails (hframe rfl)
    | beginCmd => exact (check_passes_of_true (hc rfl)).trans (check_fails (hframe rfl))
    | beginData =>
      exact (check_passes_of_true (hc rfl)).trans <| (check_passes_of_true (hd rfl)).trans (check_fails (hframe rfl))
    | _ => exact exec_composite_in_open_frame rfl (hc rfl) hd (hframe rfl)
  · by_cases hf : s.frame = .cmd
    · exact (check_passes_of_frame hf).trans (check_fails hn)
    · exact check_fails hf

theorem exec_of_range_cause (h : causeApplies i s .range = true) (hfirst : NoEarlierCause i s .range) :
    exec i s = .next (rejected .range s) := by
  obtain ⟨r, c, rfl, hoff⟩ := causeApplies_range_iff.1 h
  have hc := configured_of_no_cause (hfirst .config (by decide)) rfl
  have hd := initDone_of_no_cause (hfirst .notInit (by decide)) rfl
  have hf := frame_of_no_cause (hfirst .frame (by decide)) rfl
  exact (check_passes_of_true hc).trans <| (check_passes_of_true hd).trans <|
    (check_passes_of_frame hf).trans (check_fails ((inRange_false_iff r c).2 hoff))

theorem exec_of_cursor_cause (h : causeApplies i s .cursor = true) (hfirst : NoEarlierCause i s .cursor) :
    exec i s = .next (rejected .cursor s) := by
  obtain ⟨rfl, hv⟩ := causeApplies_cursor_iff.1 h
  have hc := configured_of_no_cause (hfirst .config (by decide)) rfl
  have hd := initDone_of_no_cause (hfirst .notInit (by decide)) rfl
  have hf := frame_of_no_cause (hfirst .frame (by decide)) rfl
  exact (check_passes_of_true hc).trans <| (check_passes_of_true hd).trans <|
    (check_passes_of_frame hf).trans (check_fails hv)

theorem exec_of_full_cause (h : causeApplies i s .full = true) (hfirst : NoEarlierCause i s .full)
    (hclip : ¬ clips i s) : exec i s = .next (rejected .full s) := by
  have hf {f : FrameState} := frame_of_no_cause (f := f) (hfirst .frame (by decide))
  obtain ⟨hi, hcap⟩ := causeApplies_full_iff.1 h
  cases i with
  | cmdByte c => exact (check_passes_of_frame (hf rfl)).trans (check_fails hcap)
  | dataByte v =>
    have hcol : s.cur.col.toNat ≠ 128 := fun hcol => hclip ⟨rfl, hcol⟩
    exact (check_passes_of_frame (hf rfl)).trans <| (if_neg hcol).trans (check_fails hcap)
  | _ => exact absurd rfl hi

end checks

/-! ### Past the checks (R200) -/

/-- The operation ends with OK, and ERRLOG stays. -/
def Succeeds (i : Instr) (s : State) : Prop := ∃ t, exec i s = .next t ∧ t.status = .ok ∧ t.errlog = s.errlog

theorem succeeds_of_exec {i : Instr} {s t : State} (h : exec i s = .next t) (hok : t.status = .ok)
    (he : t.errlog = s.errlog) : Succeeds i s := ⟨t, h, hok, he⟩

/-- DATA_BYTE at the right edge answers CLIPPED (R117). -/
theorem exec_dataByte_of_clips {v : Byte} {s : State} (hf : s.frame = .data) (hcol : s.cur.col.toNat = 128) :
    exec (.dataByte v) s = .next (finish .clipped s) :=
  (check_passes_of_frame hf).trans (if_pos hcol)

/-- A DATA_BYTE short of the right edge has a cell to write (R62). -/
theorem dataByte_succeeds {v : Byte} {s : State} (hcause : ∀ e, causeApplies (.dataByte v) s e ≠ true) (hs : RegInv s)
    (hcol : s.cur.col.toNat ≠ 128) (h : acked 1 s) : Succeeds (.dataByte v) s := by
  obtain ⟨-, -, -, -, -, hdata, -⟩ := hs
  have hf : s.frame = .data := frame_of_no_cause (hcause .frame) rfl
  obtain ⟨-, -, -, hedge, -⟩ := hdata hf
  have hcell : cellAddr s.cur.page s.cur.col < nCells := cellAddr_lt _ _ (Nat.lt_of_le_of_ne hedge hcol)
  have hcap := admits_of_no_cause (hcause .full) Nat.one_ne_zero
  exact succeeds_of_exec (exec_dataByte_of_acked hf hcol hcap hcell h) rfl rfl

/-- Where no cause applies and every event is acknowledged, an operation that does not clip succeeds. -/
theorem succeeds_of_no_cause {i : Instr} {s : State} (hcause : ∀ e, causeApplies i s e ≠ true) (hs : RegInv s)
    (hclip : ¬ clips i s) (h : acked (12 + (groupsEvents (addrByte s.cfg.addr) s.config.initSeq).length) s) : Succeeds i s := by
  have hacked {n : Nat} (hn : n ≤ 12) : acked n s := acked_mono h (Nat.le_add_right_of_le hn)
  have hc := configured_of_no_cause (hcause .config)
  have hd := initDone_of_no_cause (hcause .notInit)
  have hf {f : FrameState} := frame_of_no_cause (f := f) (hcause .frame)
  have hcap := admits_of_no_cause (hcause .full)
  cases i with
  | config a =>
    have haccept : ¬ (s.cfg.configured = true ∨ a ∉ s.config.addrSet) := fun hr =>
      hcause .config (causeApplies_config_iff.2 (.inr (refusesConfig_iff.2 ⟨a, rfl, hr⟩)))
    obtain ⟨hn, ha⟩ := not_or.1 haccept
    exact succeeds_of_exec (exec_config_of_mem (eq_false_of_ne_true hn) (not_not.1 ha)) rfl rfl
  | initialise =>
    exact succeeds_of_exec (exec_initialise_of_acked (hc rfl) (hf rfl) (acked_mono h (Nat.le_add_left _ 12))) rfl rfl
  | beginCmd => exact succeeds_of_exec (exec_beginCmd_of_acked (hc rfl) (hf rfl) (hacked (by decide))) rfl rfl
  | cmdByte c =>
    exact succeeds_of_exec (exec_cmdByte_of_acked (hf rfl) (hcap (Nat.succ_ne_zero 1)) (hacked (by decide))) rfl rfl
  | endCmd =>
    have hn : s.txn.count ≠ 0 := fun hn => hcause .frame (causeApplies_frame_iff.2 (.inr ⟨rfl, hn⟩))
    exact succeeds_of_exec (exec_endCmd_of_acked (hf rfl) hn (hacked (by decide))) rfl rfl
  | beginData =>
    have hv : s.cur.valid = true :=
      eq_true_of_ne_false fun hv => hcause .cursor (causeApplies_cursor_iff.2 ⟨rfl, hv⟩)
    exact succeeds_of_exec (exec_beginData_of_acked (hc rfl) (hd rfl) (hf rfl) hv (hacked (by decide))) rfl rfl
  | dataByte v => exact dataByte_succeeds hcause hs (fun hcol => hclip ⟨rfl, hcol⟩) (hacked (by decide))
  | endData => exact succeeds_of_exec (exec_endData_of_acked (hf rfl) (hacked (by decide))) rfl rfl
  | sendCommand c => exact succeeds_of_exec (exec_sendCommand_of_acked (hc rfl) (hf rfl) (hacked (by decide))) rfl rfl
  | setPosition r c =>
    have hgrid : ¬ (r.toNat > 7 ∨ c.toNat > 127) := fun hoff =>
      hcause .range (causeApplies_range_iff.2 ⟨r, c, rfl, hoff⟩)
    obtain ⟨hr, hcol⟩ := not_or.1 hgrid
    exact succeeds_of_exec (exec_setPosition_of_acked (hc rfl) (hd rfl) (hf rfl) (Nat.le_of_not_lt hr)
      (Nat.le_of_not_lt hcol) (hacked (by decide))) rfl rfl
  | setContrast l =>
    exact succeeds_of_exec (passthrough_of_acked (hc rfl) (hd rfl) (hf rfl) (hacked (n := 6) (by decide))) rfl rfl
  | invertScreen f | sleep f =>
    exact succeeds_of_exec (passthrough_of_acked (hc rfl) (hd rfl) (hf rfl) (hacked (n := 4) (by decide))) rfl rfl

end Sys2Proof.Machine
end

section
/-! PROOFS. The statements about errors and their order (60_exceptions.md). -/

open Sys2Proof Sys2Proof.Machine

/-- Settles O30: a check that fails rejects the operation, and the checks of the causes before it pass. -/
theorem firstApplicableCauseIsReported : Obligations.FirstApplicableCauseIsReported := by
  intro i s e h hmin hfull
  have hfirst : NoEarlierCause i s e := fun e' hlt h' => absurd (hmin e' h') (Nat.not_le.2 hlt)
  cases e with
  | illegal | transport => nomatch h
  | config => exact exec_of_config_cause h
  | notInit => exact exec_of_notInit_cause h hfirst
  | frame => exact exec_of_frame_cause h hfirst
  | range => exact exec_of_range_cause h hfirst
  | cursor => exact exec_of_cursor_cause h hfirst
  | full => exact exec_of_full_cause h hfirst (hfull rfl)

/-- Settles O31: a DATA_BYTE that clips answers CLIPPED, and any other operation passes its checks and sends its events. -/
theorem noCauseMeansSuccess : Obligations.NoCauseMeansSuccess := by
  intro i s hs hcause h
  by_cases hclip : clips i s
  · have hframe : causeApplies i s .frame ≠ true := fun he => nomatch (hcause .frame he).1
    obtain ⟨v, rfl⟩ := exists_dataByte_of_clips hclip
    have hf : s.frame = .data := frame_of_no_cause hframe rfl
    have ⟨_, hcol⟩ := hclip
    exact ⟨_, exec_dataByte_of_clips hf hcol, (if_pos ⟨hf, hclip⟩).symm, rfl⟩
  · obtain ⟨t, ht, hok, he⟩ := succeeds_of_no_cause (fun e he => hclip (hcause e he).2) hs hclip h
    exact ⟨t, ht, hok.trans (if_neg fun hc => hclip hc.2).symm, he⟩
end

section
/-! SUPPORT. Every operation returns (R240): past its checks it sends events and answers a next state however they are
acknowledged, and DATA_BYTE has a cell to write where the cursor is on the grid or just past it (R32, R62). -/

namespace Sys2Proof.Machine

/-- The outcome is a next state: neither a fault nor a refusal. -/
def Returns (o : Host.Outcome State Fault Refusal) : Prop := ∃ t, o = .next t

theorem returns_next (s : State) : Returns (.next s) := ⟨s, rfl⟩

theorem returns_complete (st : Status) (a : Attempt) : Returns (a.complete st) := by
  cases a with
  | going s => exact returns_next _
  | ended s => exact returns_next s

/-- A check in front of an operation that returns keeps it so: where it fails, the operation ends with an error (R201). -/
theorem returns_check {p : Prop} [Decidable p] {e : ErrorCode} {s : State} {o : Host.Outcome State Fault Refusal}
    (h : Returns o) : Returns (if p then reject e s else o) := by
  split
  · exact returns_next _
  · exact h

theorem passthrough_returns (g : List Byte) (s : State) : Returns (passthrough g s) :=
  returns_check (returns_check (returns_check (returns_complete _ _)))

/-- Past its checks DATA_BYTE forms the address of a cell that exists, if CUR.col is a value of R27. -/
theorem exec_dataByte_returns (v : Byte) {s : State} (hedge : s.frame = .data → s.cur.col.toNat ≤ 128) :
    Returns (exec (.dataByte v) s) := by
  by_cases hf : s.frame = .data
  · by_cases hcol : s.cur.col.toNat = 128
    · exact ⟨_, exec_dataByte_of_clips hf hcol⟩
    · cases hcap : s.config.txnCap.admits (s.txn.count + 1) with
      | false => exact ⟨_, (check_passes_of_frame hf).trans <| (if_neg hcol).trans (check_fails hcap)⟩
      | true =>
        have hcell : cellAddr s.cur.page s.cur.col < nCells := cellAddr_lt _ _ (Nat.lt_of_le_of_ne (hedge hf) hcol)
        rcases acked_or_fails 1 s with h | ⟨m, hm, h⟩
        · exact ⟨_, exec_dataByte_of_acked hf hcol hcap hcell h⟩
        · obtain rfl := Nat.lt_one_iff.1 hm
          exact ⟨_, exec_dataByte_of_fails hf hcol hcap h⟩
  · exact ⟨_, check_fails hf⟩

/-- Every operation returns where the register invariants hold (R240). -/
theorem RegInv.exec_returns {s : State} (hs : RegInv s) (i : Instr) : Returns (exec i s) := by
  cases i with
  | config a => exact returns_check (returns_check (returns_next _))
  | dataByte v =>
    obtain ⟨-, -, -, -, -, hdata, -⟩ := hs
    refine exec_dataByte_returns v fun hf => ?_
    obtain ⟨-, -, -, hedge, -⟩ := hdata hf
    exact hedge
  | endData => exact returns_check (returns_complete _ _)
  | initialise | beginCmd | cmdByte | endCmd | sendCommand => exact returns_check (returns_check (returns_complete _ _))
  | beginData | setPosition =>
    exact returns_check (returns_check (returns_check (returns_check (returns_complete _ _))))
  | setContrast | invertScreen | sleep => exact passthrough_returns _ s

/-- Every word returns where the register invariants hold: an illegal one raises ERR_ILLEGAL (R92 to R94). -/
theorem RegInv.runWord_returns {s : State} (hs : RegInv s) (w : OpWord) : Returns (runWord w s) := by
  unfold runWord
  split
  · exact hs.exec_returns _
  · exact returns_next _

end Sys2Proof.Machine
end

section
/-! PROOFS. The statements about the resets, the end of a run, and what an unconfigured block answers
(70_reset_and_hazards.md). -/

open Sys2Proof Sys2Proof.Machine

/-- Settles O16: the word at pc returns, and the host index moves on. -/
theorem everyOperationReturns : Obligations.EveryOperationReturns := by
  intro s hs h0 hpc
  obtain ⟨t, ht⟩ := hs.runWord_returns s.program[s.pc]
  refine ⟨advancePc t, ?_⟩
  rw [step_of_word h0 (List.getElem?_eq_getElem hpc), ht]
  rfl

/-- Settles O35: an unconfigured machine of R32 is idle, so an operation that does not check the configuration finds its
frame not open. -/
theorem nothingRunsBeforeConfig : Obligations.NothingRunsBeforeConfig := by
  intro i s hs hc hi
  obtain ⟨-, -, hopen, -⟩ := hs
  have hidle : s.frame = .idle := by_contra fun hf => ne_true_of_eq_false hc (hopen hf)
  cases i with
  | config a => exact absurd rfl (hi a)
  | cmdByte | endCmd | dataByte | endData => exact check_fails (by simp [hidle])
  | _ => exact exec_of_config_cause (causeApplies_config_iff.2 (.inl ⟨rfl, hc⟩))

/-- Settles O10: the step takes the reset, and a block reset writes the registers of R33 alone. -/
theorem blockResetResetsTheRegistersAlone : Obligations.BlockResetResetsTheRegistersAlone :=
  fun _ h => step_of_reset h

/-- Settles O11: the step takes the reset, and an empty display memory has no Known cell. -/
theorem powerOnResetAlsoClearsLogIndexAndDisplay : Obligations.PowerOnResetAlsoClearsLogIndexAndDisplay :=
  fun _ h => ⟨_, step_of_reset h, Memory.read_nil, rfl⟩

/-- Settles O14: past the end of the program there is no word to fetch. -/
theorem runEndsAfterTheLastWord : Obligations.RunEndsAfterTheLastWord :=
  fun _ h0 hpc => step_of_no_word h0 (List.getElem?_eq_none hpc)
end
